-- ==== Sys2Proof/Word.lean ====
section
/-!
DEFINITION. The word types of the converter (spec/00_scope.md rule R5): every quantity is an
unsigned bit vector of the width the rule gives it. A color is three channels of one byte.
-/
namespace Sys2Proof

/-- A `u8` of the spec's notation: an input, a channel, a scale factor or an interpolant. -/
abbrev Byte := BitVec 8

/-- The sector index `hue[7:5]`, a `u3` (R31). -/
abbrev Sector := BitVec 3

/-- The position inside the sector `hue[4:0]`, a `u5` (R31). -/
abbrev Offset := BitVec 5

/-- The exact product inside SCALE8 and SCALE8_VIDEO, a `u16` (R51, R60). -/
abbrev Product := BitVec 16

/-- A response word, a `u32` (R32). -/
abbrev RgbWord := BitVec 32

/-- A color of one stage, three channels of 8 bits (R18: `raw_*`, `sat_*`, `out_*`). -/
structure Rgb where
  r : Byte
  g : Byte
  b : Byte
  deriving DecidableEq, Repr

end Sys2Proof
end

