-- ==== Sys2Proof/Syntax.lean ====
section
/-!
DEFINITION. The operations of spec/opcode_table.json, one constructor per row, with the operand
fields of the row's format (spec/30_encoding.md rules R30 to R38, R42), and the TARGETS: the pieces
of logic an operand word can be presented to.
-/
namespace Sys2Proof

/-- The piece of logic an operand word is presented to. The rows of the table carry no opcode bits
(R33) and rows of different groups match one and the same word (R35, R42), so a word alone does not
say which row reads it: the group does. The first four targets read a request REQ24 on the input
ports, each in its own group of R35 (`whole` is the conversion itself); the others are the six
operations of the groups `subunit` and `use`, each its own piece of logic (R33). -/
inductive Target where
  | whole
  | sector
  | sat
  | val
  | scale8
  | scale8Video
  | split
  | pack
  | third
  | twothirds
  deriving DecidableEq, Repr

/-- One constructor per row of spec/opcode_table.json, in the table's order. A request row carries
the fields of REQ24 that the row does not fix (R36 to R38); `hue` stands for `sector ‖ offset`. -/
inductive Instr where
  /-- HSV2RGB (R112): the whole conversion of a request. -/
  | hsv2rgb (hue sat val : Byte)
  /-- SCALE8 (R50), OP16 = `i ‖ frac`. -/
  | scale8 (i frac : Byte)
  /-- SCALE8_VIDEO (R60), OP16 = `i ‖ scale`. -/
  | scale8Video (i scale : Byte)
  /-- SPLIT (R70), HUE8. -/
  | split (hue : Byte)
  /-- PACK (R110), CH24 = `r ‖ g ‖ b`. -/
  | pack (r g b : Byte)
  /-- THIRD (R72): SCALE8 with first operand `offset << 3` and fraction 85. -/
  | third (offset : Offset)
  /-- TWOTHIRDS (R73): SCALE8 with first operand `offset << 3` and fraction 170. -/
  | twothirds (offset : Offset)
  /-- SEC0 (R75): a request whose `hue[7:5]` is 000. -/
  | sec0 (offset : Offset) (sat val : Byte)
  /-- SEC1 (R76): a request whose `hue[7:5]` is 001. -/
  | sec1 (offset : Offset) (sat val : Byte)
  /-- SEC2 (R77): a request whose `hue[7:5]` is 010. -/
  | sec2 (offset : Offset) (sat val : Byte)
  /-- SEC3 (R78): a request whose `hue[7:5]` is 011. -/
  | sec3 (offset : Offset) (sat val : Byte)
  /-- SEC4 (R79): a request whose `hue[7:5]` is 100. -/
  | sec4 (offset : Offset) (sat val : Byte)
  /-- SEC5 (R80): a request whose `hue[7:5]` is 101. -/
  | sec5 (offset : Offset) (sat val : Byte)
  /-- SEC6 (R81): a request whose `hue[7:5]` is 110. -/
  | sec6 (offset : Offset) (sat val : Byte)
  /-- SEC7 (R82): a request whose `hue[7:5]` is 111. -/
  | sec7 (offset : Offset) (sat val : Byte)
  /-- SAT_FULL (R91): a request whose `sat` is 255. -/
  | satFull (hue val : Byte)
  /-- SAT_ZERO (R92): a request whose `sat` is 0. -/
  | satZero (hue val : Byte)
  /-- SAT_PARTIAL (R93): a request whose `sat` is 1 to 254. -/
  | satPartial (hue sat val : Byte)
  /-- VAL_FULL (R101): a request whose `val` is 255. -/
  | valFull (hue sat : Byte)
  /-- VAL_BLACK (R103): a request whose `val` is 0. -/
  | valBlack (hue sat : Byte)
  /-- VAL_PARTIAL (R104): a request whose `val` is 1 to 254. -/
  | valPartial (hue sat val : Byte)
  deriving DecidableEq, Repr

/-- The row's mnemonic as spec/opcode_table.json spells it. -/
def Instr.mnemonic : Instr → String
  | .hsv2rgb _ _ _ => "HSV2RGB"
  | .scale8 _ _ => "SCALE8"
  | .scale8Video _ _ => "SCALE8_VIDEO"
  | .split _ => "SPLIT"
  | .pack _ _ _ => "PACK"
  | .third _ => "THIRD"
  | .twothirds _ => "TWOTHIRDS"
  | .sec0 _ _ _ => "SEC0"
  | .sec1 _ _ _ => "SEC1"
  | .sec2 _ _ _ => "SEC2"
  | .sec3 _ _ _ => "SEC3"
  | .sec4 _ _ _ => "SEC4"
  | .sec5 _ _ _ => "SEC5"
  | .sec6 _ _ _ => "SEC6"
  | .sec7 _ _ _ => "SEC7"
  | .satFull _ _ => "SAT_FULL"
  | .satZero _ _ => "SAT_ZERO"
  | .satPartial _ _ _ => "SAT_PARTIAL"
  | .valFull _ _ => "VAL_FULL"
  | .valBlack _ _ => "VAL_BLACK"
  | .valPartial _ _ _ => "VAL_PARTIAL"

end Sys2Proof
end

