-- ==== Sys2Proof/WellFormed.lean ====
section
/-!
DEFINITION. The well-formed operations: those that some operand word presented to their target
decodes to. Only the two "otherwise" rows exclude operand values, the ones that the earlier rows of
their group take (spec/30_encoding.md rules R37, R38).
-/
namespace Sys2Proof

/-- The operand values of SAT_PARTIAL and VAL_PARTIAL: "otherwise", 1 to 254 (R37, R38). -/
def isPartial (x : Byte) : Bool := x != 0 && x != 255

/-- Every operand of every other row admits all of its values (R39: no reserved form). -/
def Instr.wellFormed : Instr → Bool
  | .hsv2rgb _ _ _ => true
  | .scale8 _ _ => true
  | .scale8Video _ _ => true
  | .split _ => true
  | .pack _ _ _ => true
  | .third _ => true
  | .twothirds _ => true
  | .sec0 _ _ _ => true
  | .sec1 _ _ _ => true
  | .sec2 _ _ _ => true
  | .sec3 _ _ _ => true
  | .sec4 _ _ _ => true
  | .sec5 _ _ _ => true
  | .sec6 _ _ _ => true
  | .sec7 _ _ _ => true
  | .satFull _ _ => true
  | .satZero _ _ => true
  | .satPartial _ sat _ => isPartial sat
  | .valFull _ _ => true
  | .valBlack _ _ => true
  | .valPartial _ _ val => isPartial val

end Sys2Proof
end

