-- ==== Sys2Proof/Decode.lean ====
section
/-!
DEFINITION. The decode map of spec/30_encoding.md (R30 to R42), the table of
spec/opcode_table.json, and the encoder. An operand word is given as its bytes in the order in
which the format writes them, most significant first: REQ24 is `[hue, sat, val]`, OP16 is
`[i, frac]`, HUE8 is `[hue]`, CH24 is `[r, g, b]` (R30, R33). The spec gives no byte order (R21).
-/
namespace Sys2Proof

/-! ## Fields of `hue` (R31) -/

/-- `sector = hue[7:5]`. -/
def sectorField (hue : Byte) : Sector := hue.extractLsb' 5 3

/-- `offset = hue[4:0]`. -/
def offsetField (hue : Byte) : Offset := hue.extractLsb' 0 5

/-- `hue = sector ‖ offset`, that is `32 * sector + offset`. -/
def hueOf (sector : Sector) (offset : Offset) : Byte := sector ++ offset

/-- OP16 = `i ‖ frac` (R33). -/
def op16 (i frac : Byte) : BitVec 16 := i ++ frac

/-! ## The decoder -/

/-- Why a list of bytes is no operand word of a target. -/
inductive DecodeError where
  /-- The format of the target has another number of bytes (R40: one length per format). -/
  | operandCount (got : Nat)
  /-- The word is not of the form `offset ‖ 000 ‖ 01010101` that the use THIRD fixes (R42). -/
  | notThird
  /-- The word is not of the form `offset ‖ 000 ‖ 10101010` that the use TWOTHIRDS fixes (R42). -/
  | notTwothirds
  deriving DecidableEq, Repr

/-- The sector group (R36): exactly one row for each value of `hue[7:5]`. -/
def decodeSector (hue sat val : Byte) : Instr :=
  let c := sectorField hue
  let o := offsetField hue
  if c = 0 then .sec0 o sat val
  else if c = 1 then .sec1 o sat val
  else if c = 2 then .sec2 o sat val
  else if c = 3 then .sec3 o sat val
  else if c = 4 then .sec4 o sat val
  else if c = 5 then .sec5 o sat val
  else if c = 6 then .sec6 o sat val
  else .sec7 o sat val

/-- The saturation-mode group (R37), in the order of priority. -/
def decodeSat (hue sat val : Byte) : Instr :=
  if sat = 255 then .satFull hue val
  else if sat = 0 then .satZero hue val
  else .satPartial hue sat val

/-- The value-mode group (R38), in the order of priority. -/
def decodeVal (hue sat val : Byte) : Instr :=
  if val = 255 then .valFull hue sat
  else if val = 0 then .valBlack hue sat
  else .valPartial hue sat val

/-- THIRD fixes OP[10:0] = 0x055 (R42: mask 0x07FF, match 0x0055). -/
def decodeThird (a b : Byte) : Except DecodeError Instr :=
  if op16 a b &&& 0x07FF = 0x0055 then .ok (.third (a.extractLsb' 3 5)) else .error .notThird

/-- TWOTHIRDS fixes OP[10:0] = 0x0AA (R42: mask 0x07FF, match 0x00AA). -/
def decodeTwothirds (a b : Byte) : Except DecodeError Instr :=
  if op16 a b &&& 0x07FF = 0x00AA then .ok (.twothirds (a.extractLsb' 3 5))
  else .error .notTwothirds

/-- Decoding, total on any bytes. No request is ever rejected (R39): a rejection is a word of
another length, or a word that does not have the bits a `use` row fixes. -/
def decode (t : Target) (bytes : List Byte) : Except DecodeError Instr :=
  match t, bytes with
  | .whole, [hue, sat, val] => .ok (.hsv2rgb hue sat val)
  | .sector, [hue, sat, val] => .ok (decodeSector hue sat val)
  | .sat, [hue, sat, val] => .ok (decodeSat hue sat val)
  | .val, [hue, sat, val] => .ok (decodeVal hue sat val)
  | .scale8, [a, b] => .ok (.scale8 a b)
  | .scale8Video, [a, b] => .ok (.scale8Video a b)
  | .split, [a] => .ok (.split a)
  | .pack, [a, b, c] => .ok (.pack a b c)
  | .third, [a, b] => decodeThird a b
  | .twothirds, [a, b] => decodeTwothirds a b
  | _, other => .error (.operandCount other.length)

/-! ## The encoder -/

/-- An operand word and the target it is presented to. -/
structure Encoded where
  target : Target
  bytes : List Byte
  deriving DecidableEq, Repr

/-- The operand word of each row, written from the row's `encoding` pattern in
spec/opcode_table.json. -/
def encode : Instr → Encoded
  | .hsv2rgb hue sat val => ⟨.whole, [hue, sat, val]⟩
  | .scale8 i frac => ⟨.scale8, [i, frac]⟩
  | .scale8Video i scale => ⟨.scale8Video, [i, scale]⟩
  | .split hue => ⟨.split, [hue]⟩
  | .pack r g b => ⟨.pack, [r, g, b]⟩
  | .third offset => ⟨.third, [offset ++ 0b000#3, 0b01010101]⟩
  | .twothirds offset => ⟨.twothirds, [offset ++ 0b000#3, 0b10101010]⟩
  | .sec0 offset sat val => ⟨.sector, [hueOf 0b000 offset, sat, val]⟩
  | .sec1 offset sat val => ⟨.sector, [hueOf 0b001 offset, sat, val]⟩
  | .sec2 offset sat val => ⟨.sector, [hueOf 0b010 offset, sat, val]⟩
  | .sec3 offset sat val => ⟨.sector, [hueOf 0b011 offset, sat, val]⟩
  | .sec4 offset sat val => ⟨.sector, [hueOf 0b100 offset, sat, val]⟩
  | .sec5 offset sat val => ⟨.sector, [hueOf 0b101 offset, sat, val]⟩
  | .sec6 offset sat val => ⟨.sector, [hueOf 0b110 offset, sat, val]⟩
  | .sec7 offset sat val => ⟨.sector, [hueOf 0b111 offset, sat, val]⟩
  | .satFull hue val => ⟨.sat, [hue, 0xFF, val]⟩
  | .satZero hue val => ⟨.sat, [hue, 0x00, val]⟩
  | .satPartial hue sat val => ⟨.sat, [hue, sat, val]⟩
  | .valFull hue sat => ⟨.val, [hue, sat, 0xFF]⟩
  | .valBlack hue sat => ⟨.val, [hue, sat, 0x00]⟩
  | .valPartial hue sat val => ⟨.val, [hue, sat, val]⟩

/-! ## The table of spec/opcode_table.json -/

/-- One row: `mask` and `pattern` (the table's `match`) over a word of `width` bits. The rows of
one target stand in ascending priority (R35). -/
structure Row where
  mnemonic : String
  target : Target
  width : Nat
  mask : Nat
  pattern : Nat
  deriving DecidableEq, Repr

/-- The 21 rows (R42), in the table's order. -/
def opcodeTable : List Row :=
  [⟨"HSV2RGB", .whole, 24, 0x000000, 0x000000⟩,
   ⟨"SCALE8", .scale8, 16, 0x0000, 0x0000⟩,
   ⟨"SCALE8_VIDEO", .scale8Video, 16, 0x0000, 0x0000⟩,
   ⟨"SPLIT", .split, 8, 0x00, 0x00⟩,
   ⟨"PACK", .pack, 24, 0x000000, 0x000000⟩,
   ⟨"THIRD", .third, 16, 0x07FF, 0x0055⟩,
   ⟨"TWOTHIRDS", .twothirds, 16, 0x07FF, 0x00AA⟩,
   ⟨"SEC0", .sector, 24, 0xE00000, 0x000000⟩,
   ⟨"SEC1", .sector, 24, 0xE00000, 0x200000⟩,
   ⟨"SEC2", .sector, 24, 0xE00000, 0x400000⟩,
   ⟨"SEC3", .sector, 24, 0xE00000, 0x600000⟩,
   ⟨"SEC4", .sector, 24, 0xE00000, 0x800000⟩,
   ⟨"SEC5", .sector, 24, 0xE00000, 0xA00000⟩,
   ⟨"SEC6", .sector, 24, 0xE00000, 0xC00000⟩,
   ⟨"SEC7", .sector, 24, 0xE00000, 0xE00000⟩,
   ⟨"SAT_FULL", .sat, 24, 0x00FF00, 0x00FF00⟩,
   ⟨"SAT_ZERO", .sat, 24, 0x00FF00, 0x000000⟩,
   ⟨"SAT_PARTIAL", .sat, 24, 0x000000, 0x000000⟩,
   ⟨"VAL_FULL", .val, 24, 0x0000FF, 0x0000FF⟩,
   ⟨"VAL_BLACK", .val, 24, 0x0000FF, 0x000000⟩,
   ⟨"VAL_PARTIAL", .val, 24, 0x000000, 0x000000⟩]

/-- `(REQ & mask) == match` (R35, R42). -/
def rowMatches (w : Nat) (row : Row) : Bool := w &&& row.mask == row.pattern

/-- The row of a target that takes a word: the first, in ascending priority, that matches (R42). -/
def selectRow (t : Target) (w : Nat) : Option Row :=
  opcodeTable.find? fun row => row.target == t && rowMatches w row

/-- A word as the number the table writes: the first byte is the most significant (R30, R33). -/
def wordOf : List Byte → Nat
  | [] => 0
  | b :: rest => b.toNat * 256 ^ rest.length + wordOf rest

/-! ## A bare word, with no target named (log entry 3) -/

/-- The `n` bytes of the number `w`, the most significant first. -/
def bytesOf : Nat → Nat → List Byte
  | 0, _ => []
  | n + 1, w => BitVec.ofNat 8 (w / 256 ^ n) :: bytesOf n w

/-- DESIGN CHOICE (log entry 3). The target of a word of which only the width is known: that of the
first row of the table, among the rows of that width that match, which fixes a bit; if none fixes a
bit, that of the first that matches. -/
def bareTarget (nbits w : Nat) : Option Target :=
  let rows := opcodeTable.filter fun row => row.width == nbits && rowMatches w row
  match rows.find? fun row => row.mask != 0 with
  | some row => some row.target
  | none => rows.head?.map Row.target

/-- The instruction read from a bare word of `nbits` bits. -/
def decodeTableWord (nbits w : Nat) : Option Instr :=
  if 2 ^ nbits ≤ w then none
  else
    match bareTarget nbits w with
    | none => none
    | some t =>
      match decode t (bytesOf (nbits / 8) w) with
      | .ok i => some i
      | .error _ => none

end Sys2Proof
end

