-- ==== Sys2Proof/Machine/Flags.lean ====
section
/-!
DEFINITION. The predicates of spec/10_state.md rule R13: truth values computed inside one
evaluation that select among results. None is stored by the hardware and no operation writes a flag.
-/
namespace Sys2Proof.Machine

/-- `sat_full`: `sat == 255` (R13, R90). -/
def isSatFull (sat : Byte) : Bool := sat == 255

/-- `sat_zero`: `sat == 0` (R13, R90). -/
def isSatZero (sat : Byte) : Bool := sat == 0

/-- `val_full`: `val == 255` (R13, R100). -/
def isValFull (val : Byte) : Bool := val == 255

/-- `valp_zero`: `valp == 0` (R13, R100). -/
def isValpZero (valp : Byte) : Bool := valp == 0

/-- `chan_nonzero`: `channel != 0` (R13, R93, R104). -/
def chanNonzero (channel : Byte) : Bool := channel != 0

end Sys2Proof.Machine
end

