-- ==== Sys2Proof/Machine/Operands.lean ====
section
/-!
DEFINITION. The fixed constants (spec/00_scope.md rule R6) and the assembly of every multiplier
operand from request bits (spec/30_encoding.md rule R34): everything is zero-extended and unsigned,
and the only shift is `offset << 3`.
-/
namespace Sys2Proof.Machine

/-- Anchor value of rows 000, 011, 101 (R6). -/
def k255 : Byte := 255

/-- Anchor value of rows 001, 010, 100, 110 (R6). -/
def k171 : Byte := 171

/-- Anchor value of rows 010, 111 (R6). -/
def k170 : Byte := 170

/-- Anchor value of rows 001, 100, 110, 111 (R6). -/
def k85 : Byte := 85

/-- The fraction of THIRD: `256/3`, truncated (R6, decision D3). -/
def fracThird : Byte := 85

/-- The fraction of TWOTHIRDS: `512/3`, truncated (R6, decision D3). -/
def fracTwothirds : Byte := 170

/-- `offset8 = offset << 3 = offset ‖ 0b000` (R71). -/
def offset8 (offset : Offset) : Byte := offset ++ 0b000#3

/-- `desat = 255 - sat` (R34, R93), both operands of the brightness floor's SCALE8. -/
def desat (sat : Byte) : Byte := 255 - sat

/-- `1 + frac` in 9 bits, 1 to 256, exact (R50, R51). -/
def onePlus (frac : Byte) : BitVec 9 := 1 + frac.setWidth 9

end Sys2Proof.Machine
end

