-- ==== Sys2Proof/Machine/Arith.lean ====
section
/-!
DEFINITION. The combinational sub-units of the converter as functions of their operands
(spec/40 to spec/45): the two multipliers, the sector rows, the desaturation stage, the value stage
and the packer. 8-bit adds and subtracts are modulo 256 (decision D8); none of them ever wraps
(R83, R94).
-/
namespace Sys2Proof.Machine

/-! ## The multiplier (spec/40_scale8.md, spec/41_scale8_video.md) -/

/-- The exact 16-bit product `i * (1 + frac)` of SCALE8 (R50). -/
def scale8Product (i frac : Byte) : Product := i.setWidth 16 * (onePlus frac).setWidth 16

/-- SCALE8: `(i * (1 + frac)) >> 8`, the high byte of the product (R50). -/
def scale8 (i frac : Byte) : Byte := (scale8Product i frac).extractLsb' 8 8

/-- The exact 16-bit product `i * scale` of SCALE8_VIDEO (R60). -/
def videoProduct (i scale : Byte) : Product := i.setWidth 16 * scale.setWidth 16

/-- SCALE8_VIDEO: `(i * scale) >> 8`, plus 1 exactly when both operands are non-zero (R60). -/
def scale8Video (i scale : Byte) : Byte :=
  (videoProduct i scale).extractLsb' 8 8 +
    (if chanNonzero i && chanNonzero scale then 1 else 0)

/-! ## The sector decoder (spec/42_sector_decode.md) -/

/-- The interpolant `third` (R72). -/
def third (offset : Offset) : Byte := scale8 (offset8 offset) fracThird

/-- The interpolant `twothirds` (R73). -/
def twothirds (offset : Offset) : Byte := scale8 (offset8 offset) fracTwothirds

/-- Row SEC0, Red→Orange (R75). -/
def rowSec0 (third : Byte) : Rgb := ⟨k255 - third, third, 0⟩

/-- Row SEC1, Orange→Yellow (R76). -/
def rowSec1 (third : Byte) : Rgb := ⟨k171, k85 + third, 0⟩

/-- Row SEC2, Yellow→Green (R77). -/
def rowSec2 (third twothirds : Byte) : Rgb := ⟨k171 - twothirds, k170 + third, 0⟩

/-- Row SEC3, Green→Aqua (R78). -/
def rowSec3 (third : Byte) : Rgb := ⟨0, k255 - third, third⟩

/-- Row SEC4, Aqua→Blue (R79). -/
def rowSec4 (twothirds : Byte) : Rgb := ⟨0, k171 - twothirds, k85 + twothirds⟩

/-- Row SEC5, Blue→Purple (R80). -/
def rowSec5 (third : Byte) : Rgb := ⟨third, 0, k255 - third⟩

/-- Row SEC6, Purple→Pink (R81). -/
def rowSec6 (third : Byte) : Rgb := ⟨k85 + third, 0, k171 - third⟩

/-- Row SEC7, Pink→Red (R82). -/
def rowSec7 (third : Byte) : Rgb := ⟨k170 + third, 0, k85 - third⟩

/-- The eight-way selection by `sector` (R74). -/
def selectSector (sector : Sector) (third twothirds : Byte) : Rgb :=
  if sector = 0 then rowSec0 third
  else if sector = 1 then rowSec1 third
  else if sector = 2 then rowSec2 third twothirds
  else if sector = 3 then rowSec3 third
  else if sector = 4 then rowSec4 twothirds
  else if sector = 5 then rowSec5 third
  else if sector = 6 then rowSec6 third
  else rowSec7 third

/-- Steps 1 and 2: the raw color of a hue (R70 to R74). -/
def rawColor (hue : Byte) : Rgb :=
  selectSector (sectorField hue) (third (offsetField hue)) (twothirds (offsetField hue))

/-! ## The two stages (spec/43_desaturate.md, spec/44_value_scale.md) -/

/-- A channel through the multiplier, a zero channel staying zero (R93, R104). -/
def scaleChannel (channel frac : Byte) : Byte :=
  if chanNonzero channel then scale8 channel frac else 0

/-- The three channels through the multiplier (R93: `scl_*`; R104: `out_*`). -/
def scaleColor (c : Rgb) (frac : Byte) : Rgb :=
  ⟨scaleChannel c.r frac, scaleChannel c.g frac, scaleChannel c.b frac⟩

/-- `brightness_floor = SCALE8(desat, desat)` (R93). -/
def brightnessFloor (sat : Byte) : Byte := scale8 (desat sat) (desat sat)

/-- The floor added to every channel (R93). -/
def addFloor (c : Rgb) (floor : Byte) : Rgb := ⟨c.r + floor, c.g + floor, c.b + floor⟩

/-- SAT_FULL: no change (R91). -/
def satFull (raw : Rgb) : Rgb := raw

/-- SAT_ZERO: pure white (R92). -/
def satZero : Rgb := ⟨255, 255, 255⟩

/-- SAT_PARTIAL: the channels scaled by `sat`, then the floor added to each (R93). -/
def satPartial (raw : Rgb) (sat : Byte) : Rgb :=
  addFloor (scaleColor raw sat) (brightnessFloor sat)

/-- Step 3, the selection by `sat` (R90). -/
def desaturate (raw : Rgb) (sat : Byte) : Rgb :=
  if isSatFull sat then satFull raw
  else if isSatZero sat then satZero
  else satPartial raw sat

/-- `valp = SCALE8_VIDEO(val, val)` (R102). -/
def valpOf (val : Byte) : Byte := scale8Video val val

/-- VAL_FULL: no change (R101). -/
def valFull (c : Rgb) : Rgb := c

/-- VAL_BLACK: pure black (R103). -/
def valBlack : Rgb := ⟨0, 0, 0⟩

/-- VAL_PARTIAL: the channels scaled by `valp` (R104). -/
def valPartial (c : Rgb) (valp : Byte) : Rgb := scaleColor c valp

/-- Step 4, the selection by `val` (R100). -/
def valueScale (c : Rgb) (val : Byte) : Rgb :=
  if isValFull val then valFull c
  else if isValpZero (valpOf val) then valBlack
  else valPartial c (valpOf val)

/-! ## The packer and the whole (spec/45_pack_and_convert.md) -/

/-- PACK: `(r << 16) | (g << 8) | b` over 32 bits (R110). -/
def packRgb (r g b : Byte) : RgbWord :=
  (r.setWidth 32 <<< 16) ||| (g.setWidth 32 <<< 8) ||| b.setWidth 32

/-- A packed color (R112, Step 5). -/
def packColor (c : Rgb) : RgbWord := packRgb c.r c.g c.b

/-- HSV2RGB, Steps 1 to 5 in order (R112). -/
def convert (hue sat val : Byte) : RgbWord :=
  packColor (valueScale (desaturate (rawColor hue) sat) val)

end Sys2Proof.Machine
end

