-- ==== Sys2Proof/Machine/Signals.lean ====
section
/-!
DEFINITION. The transient signals inside one evaluation (spec/10_state.md rule R18), the predicates
(R13) and the products of the conversion's multipliers (R54, R63). They are wires: each is a
function of the request alone. The model shows them in `State`, as the values the wires carry for
the request on the input ports, so that the effect of every row of the table can be read.
Every intermediate is formed for every request, as decision D10 allows (log entry 4).
-/
namespace Sys2Proof.Machine

/-- `chan_nonzero` of the three channels of one stage (R13). -/
structure ChannelFlags where
  r : Bool
  g : Bool
  b : Bool
  deriving DecidableEq, Repr

/-- The predicates of R13. `rawNonzero` and `satNonzero` are `chan_nonzero` of Steps 3 and 4. -/
structure Predicates where
  satFull : Bool
  satZero : Bool
  valFull : Bool
  valpZero : Bool
  rawNonzero : ChannelFlags
  satNonzero : ChannelFlags
  deriving DecidableEq, Repr

/-- The 16-bit products inside the multipliers of one evaluation (R18, R54, R63): `third`,
`twothirds`, the three of desaturation, the brightness floor, `valp` and the three of dimming. -/
structure Products where
  third : Product
  twothirds : Product
  desatR : Product
  desatG : Product
  desatB : Product
  brightnessFloor : Product
  valp : Product
  dimR : Product
  dimG : Product
  dimB : Product
  deriving DecidableEq, Repr

/-- The signals of R18; `scaled` is `scl_*` of R93. -/
structure Signals where
  sector : Sector
  offset : Offset
  offset8 : Byte
  third : Byte
  twothirds : Byte
  raw : Rgb
  scaled : Rgb
  desat : Byte
  brightnessFloor : Byte
  satColor : Rgb
  valp : Byte
  out : Rgb
  predicates : Predicates
  products : Products
  deriving DecidableEq, Repr

/-- `chan_nonzero` of a color. -/
def channelFlags (c : Rgb) : ChannelFlags :=
  ⟨chanNonzero c.r, chanNonzero c.g, chanNonzero c.b⟩

/-- The predicates of a request whose raw and saturated colors are given (R13). -/
def predicatesOf (sat val : Byte) (raw satColor : Rgb) : Predicates :=
  { satFull := isSatFull sat, satZero := isSatZero sat, valFull := isValFull val
    valpZero := isValpZero (valpOf val)
    rawNonzero := channelFlags raw, satNonzero := channelFlags satColor }

/-- The products of a request whose raw and saturated colors are given (R54, R63). -/
def productsOf (hue sat val : Byte) (raw satColor : Rgb) : Products :=
  { third := scale8Product (offset8 (offsetField hue)) fracThird
    twothirds := scale8Product (offset8 (offsetField hue)) fracTwothirds
    desatR := scale8Product raw.r sat
    desatG := scale8Product raw.g sat
    desatB := scale8Product raw.b sat
    brightnessFloor := scale8Product (desat sat) (desat sat)
    valp := videoProduct val val
    dimR := scale8Product satColor.r (valpOf val)
    dimG := scale8Product satColor.g (valpOf val)
    dimB := scale8Product satColor.b (valpOf val) }

/-- All signals of a request, given the colors that leave Steps 2, 3 and 4. -/
def assemble (hue sat val : Byte) (raw satColor out : Rgb) : Signals :=
  { sector := sectorField hue
    offset := offsetField hue
    offset8 := offset8 (offsetField hue)
    third := third (offsetField hue)
    twothirds := twothirds (offsetField hue)
    raw := raw
    scaled := scaleColor raw sat
    desat := desat sat
    brightnessFloor := brightnessFloor sat
    satColor := satColor
    valp := valpOf val
    out := out
    predicates := predicatesOf sat val raw satColor
    products := productsOf hue sat val raw satColor }

/-- The signals as functions of the request alone (R18). -/
def signalsOf (hue sat val : Byte) : Signals :=
  assemble hue sat val (rawColor hue) (desaturate (rawColor hue) sat)
    (valueScale (desaturate (rawColor hue) sat) val)

end Sys2Proof.Machine
end

