-- ==== Sys2Proof/Machine/State.lean ====
section
/-!
DEFINITION. What a step reads and drives. THE CONVERTER HAS NO STATE (spec/10_state.md rules R10 to
R17): a step of it is a function of the request, and the type the spec gives its state is `Unit`
(R9). The fields below are its four ports (R16), the wires of the evaluation on them (R18, R13),
and a TEST BENCH of the model's own (log entries 1 and 2): which piece of logic the next step
presents operands to, the operand inputs of the sub-units, and the outputs of each sub-unit
evaluated on its own. No response ever depends on an earlier one (R17, R26, R117).
-/
namespace Sys2Proof.Machine

/-- The outputs of the sub-units evaluated on their own (the model's bench, log entry 2). -/
structure Bench where
  /-- SCALE8's product and result (R50). -/
  scale8Product : Product
  scale8Out : Byte
  /-- SCALE8_VIDEO's product and result (R60). -/
  videoProduct : Product
  videoOut : Byte
  /-- SPLIT's two results (R70). -/
  splitSector : Sector
  splitOffset : Offset
  /-- PACK's result (R110). -/
  packOut : RgbWord
  /-- The results of the two named uses of SCALE8 (R72, R73). -/
  thirdOut : Byte
  twothirdsOut : Byte
  deriving DecidableEq, Repr

/-- Plain data: the ports, the wires of the present evaluation, and the bench. -/
structure State where
  /-- Input port `hue_i[7:0]` (R16). -/
  hueI : Byte
  /-- Input port `sat_i[7:0]` (R16). -/
  satI : Byte
  /-- Input port `val_i[7:0]` (R16). -/
  valI : Byte
  /-- Output port `rgb_o[31:0]` (R16). -/
  rgbO : RgbWord
  /-- The wires of the evaluation that gave `rgbO` (R18, R13). Every operation of the model keeps
  `rgbO` and them what the request on the ports makes them (R16; log entry 8). -/
  signals : Signals
  /-- The model's own (log entry 2): what the next step presents operands to. -/
  target : Target
  /-- The model's own (log entry 2): the operand inputs of the sub-units, one byte each, in the
  order of the format (OP16 uses A and B, HUE8 uses A, CH24 uses all). -/
  laneA : Byte
  laneB : Byte
  laneC : Byte
  /-- The model's own (log entry 2): the outputs of the sub-units evaluated on their own. -/
  bench : Bench
  deriving DecidableEq, Repr

/-- The hardware has no fault of any kind: "no operation faults, none is refused, none is stuck,
none hangs" (R120). There is therefore no constructor: nothing can raise one, which is safe. -/
inductive Fault where
  deriving DecidableEq, Repr

/-- Why a step has no meaning. -/
inductive Refusal where
  /-- An operation that has no meaning in this model. Raised by nobody: every row of the table has
  its meaning. Safe. -/
  | notModelled (mnemonic : String)
  /-- The bench's operand inputs do not hold an operand word of the target: a target THIRD or
  TWOTHIRDS whose fixed bits are not those of the row (R42). Raised by `step` alone. A request on
  the input ports is never refused (R39). Safe. -/
  | noOperandWord (why : DecodeError)
  deriving DecidableEq, Repr

/-- The bench before any sub-unit was evaluated: the outputs for operands of zeros. -/
def Bench.zero : Bench :=
  { scale8Product := 0, scale8Out := 0, videoProduct := 0, videoOut := 0, splitSector := 0
    splitOffset := 0, packOut := 0, thirdOut := 0, twothirdsOut := 0 }

/-- There is no reset and nothing to reset (R19, R140, R141). DESIGN CHOICE (log entry 5): the
inputs carry the request (0, 0, 0), the outputs are what R16 makes of it, and the bench is at zero
with the conversion itself as the target. -/
def State.reset : State :=
  { hueI := 0, satI := 0, valI := 0
    rgbO := convert 0 0 0
    signals := signalsOf 0 0 0
    target := .whole, laneA := 0, laneB := 0, laneC := 0
    bench := Bench.zero }

end Sys2Proof.Machine
end

