-- ==== Sys2Proof/Machine/Ops.lean ====
section
/-!
DEFINITION. The named operations over `State` that the meanings are written with. The hardware has
no register file and no memory (R11, R20), takes no exception and returns from none (R120, R124,
R125): the operations are those that drive the block's wires from a request and those that drive one
output of the bench.
-/
namespace Sys2Proof.Machine

/-- The request `(hue, sat, val)` stands on the input ports and the wires have settled: the colors
that leave Steps 2, 3 and 4 are given, everything else follows from the request (R18), and the
output port carries the packed color (R16, R112). The bench does not move. -/
def State.settle (s : State) (hue sat val : Byte) (raw satColor out : Rgb) : State :=
  { s with
    hueI := hue, satI := sat, valI := val
    signals := assemble hue sat val raw satColor out
    rgbO := packColor out }

/-- Settling from the color that leaves Step 3: Step 4 reads the result of Step 3 (R113). -/
def State.settleFromSat (s : State) (hue sat val : Byte) (raw satColor : Rgb) : State :=
  s.settle hue sat val raw satColor (valueScale satColor val)

/-- Settling from the raw color: Step 3 reads the result of Step 2 (R113). -/
def State.settleFromRaw (s : State) (hue sat val : Byte) (raw : Rgb) : State :=
  s.settleFromSat hue sat val raw (desaturate raw sat)

/-- The request `(hue, sat, val)` driven on the input ports: `rgb_o` and every wire follow it in the
same operation, since `rgb_o = HSV2RGB(hue_i, sat_i, val_i)` "at all times" (R16, R18). That nothing
lags behind the ports, `T_PD` being open, is a DESIGN CHOICE (log entry 8). -/
def State.evaluate (s : State) (hue sat val : Byte) : State :=
  s.settleFromRaw hue sat val (rawColor hue)

/-- The bench's output SCALE8 driven. -/
def State.driveScale8 (s : State) (product : Product) (result : Byte) : State :=
  { s with bench := { s.bench with scale8Product := product, scale8Out := result } }

/-- The bench's output SCALE8_VIDEO driven. -/
def State.driveVideo (s : State) (product : Product) (result : Byte) : State :=
  { s with bench := { s.bench with videoProduct := product, videoOut := result } }

/-- The bench's outputs of SPLIT driven. -/
def State.driveSplit (s : State) (sector : Sector) (offset : Offset) : State :=
  { s with bench := { s.bench with splitSector := sector, splitOffset := offset } }

/-- The bench's output PACK driven. -/
def State.drivePack (s : State) (word : RgbWord) : State :=
  { s with bench := { s.bench with packOut := word } }

/-- The bench's output THIRD driven. -/
def State.driveThird (s : State) (result : Byte) : State :=
  { s with bench := { s.bench with thirdOut := result } }

/-- The bench's output TWOTHIRDS driven. -/
def State.driveTwothirds (s : State) (result : Byte) : State :=
  { s with bench := { s.bench with twothirdsOut := result } }

end Sys2Proof.Machine
end

