-- ==== Sys2Proof/Machine/Convert.lean ====
section
/-!
DEFINITION. The meanings of PACK, evaluated on its own, and of HSV2RGB, the whole conversion
(spec/45_pack_and_convert.md).
-/
namespace Sys2Proof.Machine

/-- PACK (R110). -/
def execPack (r g b : Byte) (s : State) : Host.Outcome State Fault Refusal :=
  .next (s.drivePack (packRgb r g b))

/-- HSV2RGB, Steps 1 to 5 in order (R112). -/
def execHsv2rgb (hue sat val : Byte) (s : State) : Host.Outcome State Fault Refusal :=
  let raw := rawColor hue
  let satColor := desaturate raw sat
  let out := valueScale satColor val
  .next (s.settle hue sat val raw satColor out)

end Sys2Proof.Machine
end

