-- ==== Sys2Proof/Machine/Desaturate.lean ====
section
/-!
DEFINITION. The meanings of the three saturation modes (spec/43_desaturate.md). Each is a request
with that `sat`: the saturated color is the mode's own, the raw color before it and the value stage
after it are those of the same request (R35, R113; log entry 1).
-/
namespace Sys2Proof.Machine

/-- SAT_FULL, `sat == 255` (R91). -/
def execSatFull (hue val : Byte) (s : State) : Host.Outcome State Fault Refusal :=
  .next (s.settleFromSat hue 255 val (rawColor hue) (satFull (rawColor hue)))

/-- SAT_ZERO, `sat == 0` (R92): the raw color is ignored. -/
def execSatZero (hue val : Byte) (s : State) : Host.Outcome State Fault Refusal :=
  .next (s.settleFromSat hue 0 val (rawColor hue) satZero)

/-- SAT_PARTIAL, `sat` from 1 to 254 (R93). -/
def execSatPartial (hue sat val : Byte) (s : State) : Host.Outcome State Fault Refusal :=
  .next (s.settleFromSat hue sat val (rawColor hue) (satPartial (rawColor hue) sat))

end Sys2Proof.Machine
end

