-- ==== Sys2Proof/Machine/Multiply.lean ====
section
/-!
DEFINITION. The meanings of SCALE8, SCALE8_VIDEO and the two named uses THIRD and TWOTHIRDS of SCALE8
(spec/40_scale8.md, spec/41_scale8_video.md, spec/42_sector_decode.md rules R72 and R73), each
evaluated on its own. They write no flag and no state of the converter; all are total.
-/
namespace Sys2Proof.Machine

/-- SCALE8 (R50). -/
def execScale8 (i frac : Byte) (s : State) : Host.Outcome State Fault Refusal :=
  .next (s.driveScale8 (scale8Product i frac) (scale8 i frac))

/-- SCALE8_VIDEO (R60). -/
def execScale8Video (i scale : Byte) (s : State) : Host.Outcome State Fault Refusal :=
  .next (s.driveVideo (videoProduct i scale) (scale8Video i scale))

/-- THIRD (R72). -/
def execThird (offset : Offset) (s : State) : Host.Outcome State Fault Refusal :=
  .next (s.driveThird (third offset))

/-- TWOTHIRDS (R73). -/
def execTwothirds (offset : Offset) (s : State) : Host.Outcome State Fault Refusal :=
  .next (s.driveTwothirds (twothirds offset))

end Sys2Proof.Machine
end

