-- ==== Sys2Proof/Machine/SectorTable.lean ====
section
/-!
DEFINITION. The meanings of SPLIT and of the eight sector rows (spec/42_sector_decode.md). A row
SEC<n> is a request in sector `n`: its raw color is the row's own, and the stages after it are those
of the same request, since every request selects one row of each group and they all make up one
evaluation
(R35, R113; log entry 1).
-/
namespace Sys2Proof.Machine

/-- SPLIT (R70). -/
def execSplit (hue : Byte) (s : State) : Host.Outcome State Fault Refusal :=
  .next (s.driveSplit (sectorField hue) (offsetField hue))

/-- SEC0, sector 000, Red→Orange (R75). -/
def execSec0 (offset : Offset) (sat val : Byte) (s : State) : Host.Outcome State Fault Refusal :=
  .next (s.settleFromRaw (hueOf 0b000 offset) sat val (rowSec0 (third offset)))

/-- SEC1, sector 001, Orange→Yellow (R76). -/
def execSec1 (offset : Offset) (sat val : Byte) (s : State) : Host.Outcome State Fault Refusal :=
  .next (s.settleFromRaw (hueOf 0b001 offset) sat val (rowSec1 (third offset)))

/-- SEC2, sector 010, Yellow→Green (R77). -/
def execSec2 (offset : Offset) (sat val : Byte) (s : State) : Host.Outcome State Fault Refusal :=
  .next (s.settleFromRaw (hueOf 0b010 offset) sat val (rowSec2 (third offset) (twothirds offset)))

/-- SEC3, sector 011, Green→Aqua (R78). -/
def execSec3 (offset : Offset) (sat val : Byte) (s : State) : Host.Outcome State Fault Refusal :=
  .next (s.settleFromRaw (hueOf 0b011 offset) sat val (rowSec3 (third offset)))

/-- SEC4, sector 100, Aqua→Blue (R79). -/
def execSec4 (offset : Offset) (sat val : Byte) (s : State) : Host.Outcome State Fault Refusal :=
  .next (s.settleFromRaw (hueOf 0b100 offset) sat val (rowSec4 (twothirds offset)))

/-- SEC5, sector 101, Blue→Purple (R80). -/
def execSec5 (offset : Offset) (sat val : Byte) (s : State) : Host.Outcome State Fault Refusal :=
  .next (s.settleFromRaw (hueOf 0b101 offset) sat val (rowSec5 (third offset)))

/-- SEC6, sector 110, Purple→Pink (R81). -/
def execSec6 (offset : Offset) (sat val : Byte) (s : State) : Host.Outcome State Fault Refusal :=
  .next (s.settleFromRaw (hueOf 0b110 offset) sat val (rowSec6 (third offset)))

/-- SEC7, sector 111, Pink→Red (R82). -/
def execSec7 (offset : Offset) (sat val : Byte) (s : State) : Host.Outcome State Fault Refusal :=
  .next (s.settleFromRaw (hueOf 0b111 offset) sat val (rowSec7 (third offset)))

end Sys2Proof.Machine
end

