-- ==== Sys2Proof/Machine/ValueScale.lean ====
section
/-!
DEFINITION. The meanings of the three value modes (spec/44_value_scale.md). Each is a request with
that `val`: the output color is the mode's own, the colors before it are those of the same request
(R35, R113; log entry 1).
-/
namespace Sys2Proof.Machine

/-- VAL_FULL, `val == 255` (R101). -/
def execValFull (hue sat : Byte) (s : State) : Host.Outcome State Fault Refusal :=
  .next (s.settle hue sat 255 (rawColor hue) (desaturate (rawColor hue) sat)
    (valFull (desaturate (rawColor hue) sat)))

/-- VAL_BLACK, `val == 0` (R103): the saturated color is ignored. -/
def execValBlack (hue sat : Byte) (s : State) : Host.Outcome State Fault Refusal :=
  .next (s.settle hue sat 0 (rawColor hue) (desaturate (rawColor hue) sat) valBlack)

/-- VAL_PARTIAL, `val` from 1 to 254 (R104). -/
def execValPartial (hue sat val : Byte) (s : State) : Host.Outcome State Fault Refusal :=
  .next (s.settle hue sat val (rawColor hue) (desaturate (rawColor hue) sat)
    (valPartial (desaturate (rawColor hue) sat) (valpOf val)))

end Sys2Proof.Machine
end

