-- ==== Sys2Proof/Machine/Dispatch.lean ====
section
/-! DEFINITION. One arm per row of spec/opcode_table.json, each one call of that row's meaning. -/
namespace Sys2Proof.Machine

def exec (i : Instr) (s : State) : Host.Outcome State Fault Refusal :=
  match i with
  | .hsv2rgb hue sat val => Sys2Proof.Machine.execHsv2rgb hue sat val s
  | .scale8 x frac => Sys2Proof.Machine.execScale8 x frac s
  | .scale8Video x scale => Sys2Proof.Machine.execScale8Video x scale s
  | .split hue => Sys2Proof.Machine.execSplit hue s
  | .pack r g b => Sys2Proof.Machine.execPack r g b s
  | .third offset => Sys2Proof.Machine.execThird offset s
  | .twothirds offset => Sys2Proof.Machine.execTwothirds offset s
  | .sec0 offset sat val => Sys2Proof.Machine.execSec0 offset sat val s
  | .sec1 offset sat val => Sys2Proof.Machine.execSec1 offset sat val s
  | .sec2 offset sat val => Sys2Proof.Machine.execSec2 offset sat val s
  | .sec3 offset sat val => Sys2Proof.Machine.execSec3 offset sat val s
  | .sec4 offset sat val => Sys2Proof.Machine.execSec4 offset sat val s
  | .sec5 offset sat val => Sys2Proof.Machine.execSec5 offset sat val s
  | .sec6 offset sat val => Sys2Proof.Machine.execSec6 offset sat val s
  | .sec7 offset sat val => Sys2Proof.Machine.execSec7 offset sat val s
  | .satFull hue val => Sys2Proof.Machine.execSatFull hue val s
  | .satZero hue val => Sys2Proof.Machine.execSatZero hue val s
  | .satPartial hue sat val => Sys2Proof.Machine.execSatPartial hue sat val s
  | .valFull hue sat => Sys2Proof.Machine.execValFull hue sat s
  | .valBlack hue sat => Sys2Proof.Machine.execValBlack hue sat s
  | .valPartial hue sat val => Sys2Proof.Machine.execValPartial hue sat val s

end Sys2Proof.Machine
end

