-- ==== Sys2Proof/Machine/Fetch.lean ====
section
/-!
DEFINITION. Where a step finds its operand word, and where one is put. A request is what stands on
the input ports (R16, R23); the operand word of a sub-unit is what stands on the bench's inputs
(log entry 2). There is no program counter and no instruction memory (R12, R20, R28).
-/
namespace Sys2Proof.Machine

/-- The bytes of the operand word that the target reads. -/
def State.operandBytes (s : State) : List Byte :=
  match s.target with
  | .whole => [s.hueI, s.satI, s.valI]
  | .sector => [s.hueI, s.satI, s.valI]
  | .sat => [s.hueI, s.satI, s.valI]
  | .val => [s.hueI, s.satI, s.valI]
  | .scale8 => [s.laneA, s.laneB]
  | .scale8Video => [s.laneA, s.laneB]
  | .split => [s.laneA]
  | .pack => [s.laneA, s.laneB, s.laneC]
  | .third => [s.laneA, s.laneB]
  | .twothirds => [s.laneA, s.laneB]

/-- The operation the next step runs. -/
def State.fetched (s : State) : Except DecodeError Instr := decode s.target s.operandBytes

/-- The host drives a request on the input ports and selects the conversion (R16, R23). The output
port follows at once (R16; log entry 8). -/
def State.present (s : State) (hue sat val : Byte) : State :=
  { s.evaluate hue sat val with target := .whole }

/-- The bytes of a word put where the target reads them. A request goes to the input ports, and the
output port follows at once (R16; log entry 8); a sub-unit's word goes to the bench's inputs and moves
no port and no wire (log entry 2). A byte count that is not the target's leaves all as it is. -/
def State.place (s : State) (t : Target) (bytes : List Byte) : State :=
  match t, bytes with
  | .whole, [a, b, c] => { s.evaluate a b c with target := .whole }
  | .sector, [a, b, c] => { s.evaluate a b c with target := .sector }
  | .sat, [a, b, c] => { s.evaluate a b c with target := .sat }
  | .val, [a, b, c] => { s.evaluate a b c with target := .val }
  | .scale8, [a, b] => { s with target := .scale8, laneA := a, laneB := b }
  | .scale8Video, [a, b] => { s with target := .scale8Video, laneA := a, laneB := b }
  | .split, [a] => { s with target := .split, laneA := a }
  | .pack, [a, b, c] => { s with target := .pack, laneA := a, laneB := b, laneC := c }
  | .third, [a, b] => { s with target := .third, laneA := a, laneB := b }
  | .twothirds, [a, b] => { s with target := .twothirds, laneA := a, laneB := b }
  | _, _ => s

/-- A bare word put where the next step reads it, its target selected as `decodeTableWord` selects
it (log entry 3). -/
def State.placeWord (s : State) (nbits w : Nat) : State :=
  match bareTarget nbits w with
  | some t => s.place t (bytesOf (nbits / 8) w)
  | none => s

end Sys2Proof.Machine
end

