-- ==== Sys2Proof/Machine/Step.lean ====
section
/-!
DEFINITION. One step: one evaluation of the target on the operand word it reads. On the target
`whole`, where `State.reset` stands, a step is one evaluation of HSV2RGB on the input ports, "a
single indivisible step from request to response" (R122).

DESIGN CHOICE (log entry 8): the propagation delay `T_PD` is open (R142, R146), and the model gives
`rgb_o` no lag. Whatever moves the input ports (`State.present`, `State.place`,
`State.withFetchWord`, a request row) settles the block in the same operation, and a step on a bench
target moves neither the ports nor the block, so that `rgb_o` stays the response to the request that
stands on the ports, for any number of such steps (R16).
-/
namespace Sys2Proof.Machine

/-- One step. Nothing advances and nothing is consumed: the same inputs may be evaluated again
(R23), and what is evaluated next is what the host then drives. After it, as before it, `rgb_o` is
the response to the request on the ports: nothing lags (R16; log entry 8). -/
def step (s : State) : Host.Outcome State Fault Refusal :=
  match s.fetched with
  | .ok i => exec i s
  | .error why => .refused (.noOperandWord why)

/-- The word `w` of `nbits` bits put where `step` finds its next operand word, with the target that
the word is read for, so that the next step runs what `decodeTableWord` reads (log entry 3). A word
that is put on the input ports moves `rgb_o` with them (R16; log entry 8). -/
def State.withFetchWord (s : State) (nbits w : Nat) : State := s.placeWord nbits w

end Sys2Proof.Machine
end

