-- ==== Sys2Proof/Config.lean ====
section
/-!
DEFINITION. What the spec leaves to the converter's surroundings. The converter itself takes no
parameter (spec/00_scope.md rule R7; spec/92_eei_decisions.md, end). The two open points belong to
the HOST ADAPTER of spec/60_exceptions.md rule R128, which brings wider integers to 8 bits.
-/
namespace Sys2Proof

/-- The two legal values of the open parameter `HOST_RANGE_POLICY` (R128, decision D13). -/
inductive HostRangePolicy where
  /-- An argument outside 0 to 255 is reduced modulo 256. -/
  | truncate
  /-- An argument outside 0 to 255 is not presented: the adapter reports a range error. -/
  | reject
  deriving DecidableEq, Repr, Inhabited

/-- `HOST_RANGE_POLICY` of the installation: "implementer's choice, but must be documented and
consistent" (R128). One constant for all three arguments and every call; nothing says which. -/
opaque Config.hostRangePolicy : HostRangePolicy

/-- FREE VALUE (log entry 7): the byte a negative argument is presented as under `truncate`. The
source does not say how a negative number is reduced (spec/91_not_in_source.md N10). -/
opaque Config.truncateNegative : Int → Byte

end Sys2Proof
end

