-- ==== Sys2Proof/Machine/HostBoundary.lean ====
section
/-!
DEFINITION. The host's side of the ports: presenting requests one after another (spec/95 section 3,
R148) and the host adapter of spec/60_exceptions.md rule R128, which brings wider integers to 8
bits under `HOST_RANGE_POLICY`. The adapter is not part of the block (R4); it is described here
because R128 gives its two legal behaviours.
-/
namespace Sys2Proof.Machine

/-- One request, a triple that belongs together (R23, R145). -/
structure Request where
  hue : Byte
  sat : Byte
  val : Byte
  deriving DecidableEq, Repr

/-- One evaluation for the host: drive the request, let the block evaluate it, read the output. The
answer carries the state after; nothing is answered where a step does not give a next state. -/
def ask (s : State) (r : Request) : Option (RgbWord × State) :=
  match step (s.present r.hue r.sat r.val) with
  | .next t => some (t.rgbO, t)
  | .fault _ => none
  | .refused _ => none

/-- The requests presented in order, with the responses read (R148: `n` independent evaluations).
The run ends early where a request is not answered. -/
def serve (s : State) : List Request → List RgbWord
  | [] => []
  | r :: rest =>
    match ask s r with
    | some (w, t) => w :: serve t rest
    | none => []

/-- What the adapter's caller gets. -/
inductive HostReply where
  /-- The response word of the block. -/
  | response (word : RgbWord)
  /-- "does not invoke the block; reports a range error to its caller" (R128). -/
  | rangeError
  deriving DecidableEq, Repr

/-- One argument under a policy (R128). In 0 to 255 both policies present it unchanged. A negative
argument under `truncate` is presented as a FREE VALUE (N10, log entry 7). -/
def adaptArg (policy : HostRangePolicy) (n : Int) : Option Byte :=
  if 0 ≤ n ∧ n ≤ 255 then some (BitVec.ofInt 8 n)
  else
    match policy with
    | .reject => none
    | .truncate => if n < 0 then some (Config.truncateNegative n) else some (BitVec.ofInt 8 n)

/-- The three arguments under one policy (R128: "the same policy applies to all three arguments"). -/
def adapt (policy : HostRangePolicy) (hue sat val : Int) : Option Request :=
  match adaptArg policy hue, adaptArg policy sat, adaptArg policy val with
  | some h, some s, some v => some ⟨h, s, v⟩
  | _, _, _ => none

/-- A call of the adapter under a policy. A rejected call leaves the block untouched. -/
def callUnder (policy : HostRangePolicy) (s : State) (hue sat val : Int) :
    Option (HostReply × State) :=
  match adapt policy hue sat val with
  | none => some (.rangeError, s)
  | some r =>
    match ask s r with
    | some (w, t) => some (.response w, t)
    | none => none

/-- A call under the installation's one policy. -/
def hostCall (s : State) (hue sat val : Int) : Option (HostReply × State) :=
  callUnder Config.hostRangePolicy s hue sat val

end Sys2Proof.Machine
end

