-- ==== Sys2Proof/Safety.lean ====
section
/-!
DEFINITION. The terms claims are stated in: the integer reading of the spec's formulas, what a
settled block is, which ranges its wires keep, and what an evaluation may touch. Everything here is
written over natural numbers from the rules, apart from the model's bit vectors.
-/
namespace Sys2Proof.Safety

open Sys2Proof.Machine

/-! ## The rules over the natural numbers -/

/-- `floor(i * (frac + 1) / 256)` (R50). -/
def scaleNat (i frac : Nat) : Nat := i * (1 + frac) / 256

/-- `floor(i * scale / 256)`, plus 1 if both are non-zero (R60). -/
def videoNat (i scale : Nat) : Nat := i * scale / 256 + (if i ≠ 0 ∧ scale ≠ 0 then 1 else 0)

/-- The closed form of `third` (R72). -/
def thirdNat (offset : Nat) : Nat := 43 * offset / 16

/-- The closed form of `twothirds` (R73). -/
def twothirdsNat (offset : Nat) : Nat := 171 * offset / 32

/-- The table of R74, one line per sector, for `hue = 32 * sector + offset`. -/
def rawNat (hue : Nat) : Nat × Nat × Nat :=
  let t := thirdNat (hue % 32)
  let u := twothirdsNat (hue % 32)
  match hue / 32 with
  | 0 => (255 - t, t, 0)
  | 1 => (171, 85 + t, 0)
  | 2 => (171 - u, 170 + t, 0)
  | 3 => (0, 255 - t, t)
  | 4 => (0, 171 - u, 85 + u)
  | 5 => (t, 0, 255 - t)
  | 6 => (85 + t, 0, 171 - t)
  | _ => (170 + t, 0, 85 - t)

/-- A function applied to each channel. -/
def eachNat (f : Nat → Nat) (c : Nat × Nat × Nat) : Nat × Nat × Nat := (f c.1, f c.2.1, f c.2.2)

/-- Red in bits 23 to 16, green in bits 15 to 8, blue in bits 7 to 0 (R32). -/
def packNat (c : Nat × Nat × Nat) : Nat := c.1 * 65536 + c.2.1 * 256 + c.2.2

/-- Step 3 with its three cases (R90 to R93). -/
def desaturateNat (sat : Nat) (c : Nat × Nat × Nat) : Nat × Nat × Nat :=
  if sat = 255 then c
  else if sat = 0 then (255, 255, 255)
  else eachNat (fun x => scaleNat x sat + scaleNat (255 - sat) (255 - sat)) c

/-- Step 4 with its three cases (R100 to R104). -/
def dimNat (val : Nat) (c : Nat × Nat × Nat) : Nat × Nat × Nat :=
  if val = 255 then c
  else if videoNat val val = 0 then (0, 0, 0)
  else eachNat (fun x => scaleNat x (videoNat val val)) c

/-- HSV2RGB step by step, with the cases of Steps 3 and 4 (R112). -/
def stepsNat (hue sat val : Nat) : Nat :=
  packNat (dimNat val (desaturateNat sat (rawNat hue)))

/-- HSV2RGB as one formula with no case on `sat` or `val` (R114). -/
def formulaNat (hue sat val : Nat) : Nat :=
  packNat (eachNat
    (fun x => scaleNat (scaleNat x sat + scaleNat (255 - sat) (255 - sat)) (videoNat val val))
    (rawNat hue))

/-- The channels of a color as natural numbers. -/
def nats (c : Rgb) : Nat × Nat × Nat := (c.r.toNat, c.g.toNat, c.b.toNat)

/-- Every channel of the first color is at most that of the second. -/
def NotBrighter (c d : Rgb) : Prop :=
  c.r.toNat ≤ d.r.toNat ∧ c.g.toNat ≤ d.g.toNat ∧ c.b.toNat ≤ d.b.toNat

/-! ## What an evaluation touches -/

/-- `t` is `s` with the request on the input ports and whatever the wires and the output port then
carry: the target and the whole bench are those of `s`. -/
def OnlyTheBlock (s t : State) (hue sat val : Byte) : Prop :=
  t = { s with hueI := hue, satI := sat, valI := val, signals := t.signals, rgbO := t.rgbO }

/-- The operation completes and the output port then carries `w`. -/
def Answers (s : State) (i : Instr) (w : RgbWord) : Prop := ∃ t, exec i s = .next t ∧ t.rgbO = w

/-- The four targets that read a request on the input ports. -/
def IsRequestTarget (t : Target) : Prop :=
  t = .whole ∨ t = .sector ∨ t = .sat ∨ t = .val

/-- `x` is `s` with an operand word put: on a request target the word is on the ports and everything
that is neither port, wire, output nor target is as in `s`; on any other target the word is on the
bench's inputs and the ports, the wires and the output are as in `s`. -/
def OnlyTheInputs (s x : State) : Prop :=
  (IsRequestTarget x.target →
    x = { s with target := x.target, hueI := x.hueI, satI := x.satI, valI := x.valI,
                 signals := x.signals, rgbO := x.rgbO }) ∧
  (¬ IsRequestTarget x.target →
    x = { s with target := x.target, laneA := x.laneA, laneB := x.laneB, laneC := x.laneC })

/-! ## Invariants -/

/-- `rgb_o = HSV2RGB(hue_i, sat_i, val_i)` (R16), and every wire carries what the request on the
ports gives it (R18). -/
abbrev Settled (s : State) : Prop :=
  s.signals = signalsOf s.hueI s.satI s.valI ∧ s.rgbO = convert s.hueI s.satI s.valI

/-- The least value of each raw channel in a sector (R83's table). -/
def rawLow : Nat → Nat × Nat × Nat
  | 0 => (172, 0, 0)
  | 1 => (171, 85, 0)
  | 2 => (6, 170, 0)
  | 3 => (0, 172, 0)
  | 4 => (0, 6, 85)
  | 5 => (0, 0, 172)
  | 6 => (85, 0, 88)
  | _ => (170, 0, 2)

/-- The greatest value of each raw channel in a sector (R83's table). -/
def rawHigh : Nat → Nat × Nat × Nat
  | 0 => (255, 83, 0)
  | 1 => (171, 168, 0)
  | 2 => (171, 253, 0)
  | 3 => (0, 255, 83)
  | 4 => (0, 171, 250)
  | 5 => (83, 0, 255)
  | 6 => (168, 0, 171)
  | _ => (253, 0, 85)

/-- A raw color lies in the range of its sector (R83). -/
abbrev RawInRange (sector : Nat) (c : Rgb) : Prop :=
  ((rawLow sector).1 ≤ c.r.toNat ∧ c.r.toNat ≤ (rawHigh sector).1) ∧
    ((rawLow sector).2.1 ≤ c.g.toNat ∧ c.g.toNat ≤ (rawHigh sector).2.1) ∧
    ((rawLow sector).2.2 ≤ c.b.toNat ∧ c.b.toNat ≤ (rawHigh sector).2.2)

/-- `chan_nonzero` of the three channels of a color (R13). -/
abbrev ChannelFlagsExact (f : ChannelFlags) (c : Nat × Nat × Nat) : Prop :=
  f.r = decide (c.1 ≠ 0) ∧ f.g = decide (c.2.1 ≠ 0) ∧ f.b = decide (c.2.2 ≠ 0)

/-- The predicates are those R13 defines, of the request `(hue, sat, val)` over the integers:
`rawNonzero` reads the raw color (R74) and `satNonzero` the color that leaves Step 3 (R90 to R93). -/
abbrev PredicatesExact (p : Predicates) (hue sat val : Nat) : Prop :=
  p.satFull = decide (sat = 255) ∧ p.satZero = decide (sat = 0) ∧ p.valFull = decide (val = 255) ∧
    p.valpZero = decide (videoNat val val = 0) ∧
    ChannelFlagsExact p.rawNonzero (rawNat hue) ∧
    ChannelFlagsExact p.satNonzero (desaturateNat sat (rawNat hue))

/-- The ten products are the exact integer products of R54 and R63 for the request
`(hue, sat, val)`, with the operands of R34. That each is formed in every case of Steps 3 and 4 is
log entry 4. -/
abbrev ProductsExact (p : Products) (hue sat val : Nat) : Prop :=
  p.third.toNat = 8 * (hue % 32) * 86 ∧ p.twothirds.toNat = 8 * (hue % 32) * 171 ∧
    p.desatR.toNat = (rawNat hue).1 * (1 + sat) ∧
    p.desatG.toNat = (rawNat hue).2.1 * (1 + sat) ∧
    p.desatB.toNat = (rawNat hue).2.2 * (1 + sat) ∧
    p.brightnessFloor.toNat = (255 - sat) * (256 - sat) ∧
    p.valp.toNat = val * val ∧
    p.dimR.toNat = (desaturateNat sat (rawNat hue)).1 * (1 + videoNat val val) ∧
    p.dimG.toNat = (desaturateNat sat (rawNat hue)).2.1 * (1 + videoNat val val) ∧
    p.dimB.toNat = (desaturateNat sat (rawNat hue)).2.2 * (1 + videoNat val val)

/-- The predicates and the products are those of the request on the ports. -/
abbrev SignalsExact (s : State) : Prop :=
  PredicatesExact s.signals.predicates s.hueI.toNat s.satI.toNat s.valI.toNat ∧
    ProductsExact s.signals.products s.hueI.toNat s.satI.toNat s.valI.toNat

/-- No product passes 65280 (R18, R51). -/
abbrev ProductsInRange (p : Products) : Prop :=
  p.third.toNat ≤ 65280 ∧ p.twothirds.toNat ≤ 65280 ∧ p.desatR.toNat ≤ 65280 ∧
    p.desatG.toNat ≤ 65280 ∧ p.desatB.toNat ≤ 65280 ∧ p.brightnessFloor.toNat ≤ 65280 ∧
    p.valp.toNat ≤ 65280 ∧ p.dimR.toNat ≤ 65280 ∧ p.dimG.toNat ≤ 65280 ∧ p.dimB.toNat ≤ 65280

/-- The ranges of R18 (those that the widths do not already say), where each signal is used, and the
zero top byte of the response (R32, R111). -/
abbrev SignalsInRange (s : State) : Prop :=
  s.signals.offset8.toNat = 8 * s.signals.offset.toNat ∧
    s.signals.third.toNat ≤ 83 ∧ s.signals.twothirds.toNat ≤ 165 ∧
    RawInRange s.signals.sector.toNat s.signals.raw ∧
    (s.signals.predicates.satFull = false → s.signals.predicates.satZero = false →
      1 ≤ s.signals.desat.toNat ∧ s.signals.desat.toNat ≤ 254 ∧
        s.signals.brightnessFloor.toNat ≤ 253) ∧
    (s.signals.predicates.valFull = false → s.signals.valp.toNat ≤ 253) ∧
    (s.signals.predicates.valFull = true → s.signals.valp.toNat = 255) ∧
    ProductsInRange s.signals.products ∧
    s.rgbO.toNat ≤ 0x00FFFFFF

end Sys2Proof.Safety
end

