-- ==== Sys2Proof/Certificates/Slice0/Obligations.lean ====
section
/-!
DEFINITION. The statements for the provers, each citing the rule of spec/ it formalises. Every one
holds for every state, whatever the wires and the bench carried before.
-/

open Sys2Proof Sys2Proof.Machine Sys2Proof.Safety

/-! ## The multiplier (spec/40_scale8.md, spec/41_scale8_video.md) -/

/-- R50: SCALE8 is total; its product is exact and its result is the product's high byte. Frame (the
bench is the model's choice, log entry 2): only the two SCALE8 outputs of the bench move. -/
def Obligations.ScaleEightMultiplies : Prop :=
  ∀ (i frac : Byte) (s : State), ∃ t, exec (.scale8 i frac) s = .next t ∧
    t.bench.scale8Product.toNat = i.toNat * (1 + frac.toNat) ∧
    t.bench.scale8Out.toNat = i.toNat * (1 + frac.toNat) / 256 ∧
    t = { s with
      bench := { s.bench with
        scale8Product := t.bench.scale8Product, scale8Out := t.bench.scale8Out } } ∧
    (i = 248 → frac = 85 → t.bench.scale8Product = 0x5350 ∧ t.bench.scale8Out = 83)

/-- R51, R52: no product passes 65280, so 16 bits hold it exactly and there is nothing to clamp. -/
def Obligations.ScaleEightNeverClamps : Prop :=
  ∀ (i frac : Byte) (s : State), ∃ t, exec (.scale8 i frac) s = .next t ∧
    t.bench.scale8Product.toNat = i.toNat * frac.toNat + i.toNat ∧
    t.bench.scale8Product.toNat ≤ 65280 ∧
    (t.bench.scale8Product.toNat = 65280 ↔ i = 255 ∧ frac = 255) ∧
    t.bench.scale8Out.toNat = t.bench.scale8Product.toNat / 256

/-- R53, all eight rows of its table. -/
def Obligations.ScaleEightProperties : Prop :=
  ∀ i frac : Byte,
    scale8 i 255 = i ∧ scale8 i 0 = 0 ∧ scale8 0 frac = 0 ∧
    (scale8 i frac).toNat ≤ i.toNat ∧
    (frac.toNat ≤ 254 → (scale8 i frac).toNat ≤ frac.toNat) ∧
    (frac.toNat = 255 → scale8 i frac = i) ∧
    scale8 255 frac = frac ∧
    (∀ j : Byte, i.toNat ≤ j.toNat → (scale8 i frac).toNat ≤ (scale8 j frac).toNat) ∧
    (∀ f : Byte, frac.toNat ≤ f.toNat → (scale8 i frac).toNat ≤ (scale8 i f).toNat) ∧
    (scale8 i frac = 0 ↔ i.toNat * (frac.toNat + 1) < 256) ∧ scale8 1 254 = 0

/-- R60: the multiplier operand is `scale` itself and the `+1` comes after the shift. Frame (the
bench is the model's choice, log entry 2): only the two SCALE8_VIDEO outputs of the bench move. -/
def Obligations.VideoScaleMultiplies : Prop :=
  ∀ (i scale : Byte) (s : State), ∃ t, exec (.scale8Video i scale) s = .next t ∧
    t.bench.videoProduct.toNat = i.toNat * scale.toNat ∧
    t.bench.videoOut.toNat =
      i.toNat * scale.toNat / 256 + (if i ≠ 0 ∧ scale ≠ 0 then 1 else 0) ∧
    t = { s with
      bench := { s.bench with
        videoProduct := t.bench.videoProduct, videoOut := t.bench.videoOut } } ∧
    (i = 128 → scale = 128 → t.bench.videoOut = 65)

/-- R61, the zero-preservation contract. -/
def Obligations.VideoScaleZeroExactlyOnZero : Prop :=
  ∀ (i scale : Byte) (s : State), ∃ t, exec (.scale8Video i scale) s = .next t ∧
    (t.bench.videoOut = 0 ↔ i = 0 ∨ scale = 0)

/-- R62. `q` is the high byte of the exact product. -/
def Obligations.VideoScaleNeverWraps : Prop :=
  ∀ (i scale : Byte) (s : State), ∃ t, exec (.scale8Video i scale) s = .next t ∧
    t.bench.videoProduct.toNat ≤ 65025 ∧ t.bench.videoProduct.toNat / 256 ≤ 254 ∧
    t.bench.videoOut.toNat =
      t.bench.videoProduct.toNat / 256 + (if i ≠ 0 ∧ scale ≠ 0 then 1 else 0) ∧
    (t.bench.videoOut = 255 ↔ i = 255 ∧ scale = 255) ∧
    t.bench.videoOut.toNat ≤ i.toNat ∧ t.bench.videoOut.toNat ≤ scale.toNat

/-! ## The sector decoder (spec/42_sector_decode.md) -/

/-- R70. Frame (the bench is the model's choice, log entry 2): only the two SPLIT outputs of the
bench move. -/
def Obligations.SplitCutsHue : Prop :=
  ∀ (hue : Byte) (s : State), ∃ t, exec (.split hue) s = .next t ∧
    t.bench.splitSector.setWidth 8 = hue >>> 5 ∧
    t.bench.splitOffset.setWidth 8 = hue &&& 0x1F ∧
    hue.toNat = 32 * t.bench.splitSector.toNat + t.bench.splitOffset.toNat ∧
    t = { s with
      bench := { s.bench with
        splitSector := t.bench.splitSector, splitOffset := t.bench.splitOffset } } ∧
    (hue = 0xB7 → t.bench.splitSector = 5 ∧ t.bench.splitOffset = 23)

/-- R72. Frame (the bench is the model's choice, log entry 2): only the THIRD output of the bench
moves. -/
def Obligations.ThirdIsTheRamp : Prop :=
  ∀ (offset : Offset) (s : State), ∃ t, exec (.third offset) s = .next t ∧
    t.bench.thirdOut.toNat = 8 * offset.toNat * 86 / 256 ∧
    t.bench.thirdOut.toNat = 43 * offset.toNat / 16 ∧
    t.bench.thirdOut.toNat ≤ 83 ∧ (offset = 0 → t.bench.thirdOut = 0) ∧
    (offset = 31 → t.bench.thirdOut = 83) ∧ (offset = 23 → t.bench.thirdOut = 61) ∧
    t = { s with bench := { s.bench with thirdOut := t.bench.thirdOut } }

/-- R73 (the constant is 170, decision D3). Frame (the bench is the model's choice, log entry 2):
only the TWOTHIRDS output of the bench moves. -/
def Obligations.TwothirdsIsTheRamp : Prop :=
  ∀ (offset : Offset) (s : State), ∃ t, exec (.twothirds offset) s = .next t ∧
    t.bench.twothirdsOut.toNat = 8 * offset.toNat * 171 / 256 ∧
    t.bench.twothirdsOut.toNat = 171 * offset.toNat / 32 ∧
    t.bench.twothirdsOut.toNat ≤ 165 ∧ (offset = 0 → t.bench.twothirdsOut = 0) ∧
    (offset = 31 → t.bench.twothirdsOut = 165) ∧ (offset = 23 → t.bench.twothirdsOut = 122) ∧
    (offset = 3 → t.bench.twothirdsOut = 16 ∧ third offset = 8) ∧
    (offset = 1 → t.bench.twothirdsOut = 5 ∧ third offset = 2) ∧
    t = { s with bench := { s.bench with twothirdsOut := t.bench.twothirdsOut } }

/-- R87, the table written out. -/
def Obligations.InterpolantTable : Prop :=
  (List.range 32).map (fun n =>
      ((offset8 (BitVec.ofNat 5 n)).toNat, (third (BitVec.ofNat 5 n)).toNat,
        (twothirds (BitVec.ofNat 5 n)).toNat)) =
      [(0, 0, 0), (8, 2, 5), (16, 5, 10), (24, 8, 16), (32, 10, 21), (40, 13, 26), (48,
       16, 32), (56, 18, 37), (64, 21, 42), (72, 24, 48), (80, 26, 53), (88, 29, 58), (96,
       32, 64), (104, 34, 69), (112, 37, 74), (120, 40, 80), (128, 43, 85), (136, 45, 90),
       (144, 48, 96), (152, 51, 101), (160, 53, 106), (168, 56, 112), (176, 59, 117),
       (184, 61, 122), (192, 64, 128), (200, 67, 133), (208, 69, 138), (216, 72, 144),
       (224, 75, 149), (232, 77, 154), (240, 80, 160), (248, 83, 165)]

/-- R75, over the integers, so no add or subtract wraps. Frame (the model's choice, log entry 1):
only the ports and the wires move. -/
def Obligations.Sec0RedToOrange : Prop :=
  ∀ (offset : Offset) (sat val : Byte) (s : State), ∃ t,
    exec (.sec0 offset sat val) s = .next t ∧
    OnlyTheBlock s t (BitVec.ofNat 8 (32 * 0 + offset.toNat)) sat val ∧
    t.signals.third.toNat = thirdNat offset.toNat ∧
    t.signals.twothirds.toNat = twothirdsNat offset.toNat ∧
    t.signals.raw.r.toNat = 255 - t.signals.third.toNat ∧
    t.signals.raw.g.toNat = t.signals.third.toNat ∧
    t.signals.raw.b.toNat = 0 ∧
    172 ≤ t.signals.raw.r.toNat ∧ t.signals.raw.g.toNat ≤ 83 ∧
    (offset = 0 → t.signals.raw = ⟨255, 0, 0⟩) ∧
    (offset = 31 → t.signals.raw = ⟨172, 83, 0⟩) ∧
    (offset = 16 → packColor t.signals.raw = 0xD42B00) ∧
    t.signals.raw.r = ~~~t.signals.third

/-- R76, over the integers, so no add or subtract wraps. Frame (the model's choice, log entry 1):
only the ports and the wires move. -/
def Obligations.Sec1OrangeToYellow : Prop :=
  ∀ (offset : Offset) (sat val : Byte) (s : State), ∃ t,
    exec (.sec1 offset sat val) s = .next t ∧
    OnlyTheBlock s t (BitVec.ofNat 8 (32 * 1 + offset.toNat)) sat val ∧
    t.signals.third.toNat = thirdNat offset.toNat ∧
    t.signals.twothirds.toNat = twothirdsNat offset.toNat ∧
    t.signals.raw.r.toNat = 171 ∧
    t.signals.raw.g.toNat = 85 + t.signals.third.toNat ∧
    t.signals.raw.b.toNat = 0 ∧
    85 ≤ t.signals.raw.g.toNat ∧ t.signals.raw.g.toNat ≤ 168 ∧
    (offset = 0 → t.signals.raw = ⟨171, 85, 0⟩) ∧
    (offset = 31 → t.signals.raw = ⟨171, 168, 0⟩) ∧
    (offset = 16 → packColor t.signals.raw = 0xAB8000)

/-- R77, over the integers, so no add or subtract wraps. Frame (the model's choice, log entry 1):
only the ports and the wires move. -/
def Obligations.Sec2YellowToGreen : Prop :=
  ∀ (offset : Offset) (sat val : Byte) (s : State), ∃ t,
    exec (.sec2 offset sat val) s = .next t ∧
    OnlyTheBlock s t (BitVec.ofNat 8 (32 * 2 + offset.toNat)) sat val ∧
    t.signals.third.toNat = thirdNat offset.toNat ∧
    t.signals.twothirds.toNat = twothirdsNat offset.toNat ∧
    t.signals.raw.r.toNat = 171 - t.signals.twothirds.toNat ∧
    t.signals.raw.g.toNat = 170 + t.signals.third.toNat ∧
    t.signals.raw.b.toNat = 0 ∧
    t.signals.twothirds.toNat ≤ 165 ∧ 6 ≤ t.signals.raw.r.toNat ∧ t.signals.raw.r.toNat ≤ 171 ∧
    170 ≤ t.signals.raw.g.toNat ∧ t.signals.raw.g.toNat ≤ 253 ∧
    (offset = 0 → t.signals.raw = ⟨171, 170, 0⟩) ∧
    (offset = 31 → t.signals.raw = ⟨6, 253, 0⟩) ∧
    (offset = 16 → packColor t.signals.raw = 0x56D500)

/-- R78, over the integers, so no add or subtract wraps. Frame (the model's choice, log entry 1):
only the ports and the wires move. -/
def Obligations.Sec3GreenToAqua : Prop :=
  ∀ (offset : Offset) (sat val : Byte) (s : State), ∃ t,
    exec (.sec3 offset sat val) s = .next t ∧
    OnlyTheBlock s t (BitVec.ofNat 8 (32 * 3 + offset.toNat)) sat val ∧
    t.signals.third.toNat = thirdNat offset.toNat ∧
    t.signals.twothirds.toNat = twothirdsNat offset.toNat ∧
    t.signals.raw.r.toNat = 0 ∧
    t.signals.raw.g.toNat = 255 - t.signals.third.toNat ∧
    t.signals.raw.b.toNat = t.signals.third.toNat ∧
    172 ≤ t.signals.raw.g.toNat ∧ t.signals.raw.b.toNat ≤ 83 ∧
    (offset = 0 → t.signals.raw = ⟨0, 255, 0⟩) ∧
    (offset = 31 → t.signals.raw = ⟨0, 172, 83⟩) ∧
    (offset = 16 → packColor t.signals.raw = 0x00D42B)

/-- R79, over the integers, so no add or subtract wraps. Frame (the model's choice, log entry 1):
only the ports and the wires move. -/
def Obligations.Sec4AquaToBlue : Prop :=
  ∀ (offset : Offset) (sat val : Byte) (s : State), ∃ t,
    exec (.sec4 offset sat val) s = .next t ∧
    OnlyTheBlock s t (BitVec.ofNat 8 (32 * 4 + offset.toNat)) sat val ∧
    t.signals.third.toNat = thirdNat offset.toNat ∧
    t.signals.twothirds.toNat = twothirdsNat offset.toNat ∧
    t.signals.raw.r.toNat = 0 ∧
    t.signals.raw.g.toNat = 171 - t.signals.twothirds.toNat ∧
    t.signals.raw.b.toNat = 85 + t.signals.twothirds.toNat ∧
    6 ≤ t.signals.raw.g.toNat ∧ t.signals.raw.g.toNat ≤ 171 ∧ 85 ≤ t.signals.raw.b.toNat ∧
    t.signals.raw.b.toNat ≤ 250 ∧
    (offset = 0 → t.signals.raw = ⟨0, 171, 85⟩) ∧
    (offset = 31 → t.signals.raw = ⟨0, 6, 250⟩) ∧
    (offset = 16 → packColor t.signals.raw = 0x0056AA) ∧
    t.signals.raw.g.toNat + t.signals.raw.b.toNat = 256

/-- R80, over the integers, so no add or subtract wraps. Frame (the model's choice, log entry 1):
only the ports and the wires move. -/
def Obligations.Sec5BlueToPurple : Prop :=
  ∀ (offset : Offset) (sat val : Byte) (s : State), ∃ t,
    exec (.sec5 offset sat val) s = .next t ∧
    OnlyTheBlock s t (BitVec.ofNat 8 (32 * 5 + offset.toNat)) sat val ∧
    t.signals.third.toNat = thirdNat offset.toNat ∧
    t.signals.twothirds.toNat = twothirdsNat offset.toNat ∧
    t.signals.raw.r.toNat = t.signals.third.toNat ∧
    t.signals.raw.g.toNat = 0 ∧
    t.signals.raw.b.toNat = 255 - t.signals.third.toNat ∧
    t.signals.raw.r.toNat ≤ 83 ∧ 172 ≤ t.signals.raw.b.toNat ∧
    (offset = 0 → t.signals.raw = ⟨0, 0, 255⟩) ∧
    (offset = 31 → t.signals.raw = ⟨83, 0, 172⟩) ∧
    (offset = 16 → packColor t.signals.raw = 0x2B00D4)

/-- R81, over the integers, so no add or subtract wraps. Frame (the model's choice, log entry 1):
only the ports and the wires move. -/
def Obligations.Sec6PurpleToPink : Prop :=
  ∀ (offset : Offset) (sat val : Byte) (s : State), ∃ t,
    exec (.sec6 offset sat val) s = .next t ∧
    OnlyTheBlock s t (BitVec.ofNat 8 (32 * 6 + offset.toNat)) sat val ∧
    t.signals.third.toNat = thirdNat offset.toNat ∧
    t.signals.twothirds.toNat = twothirdsNat offset.toNat ∧
    t.signals.raw.r.toNat = 85 + t.signals.third.toNat ∧
    t.signals.raw.g.toNat = 0 ∧
    t.signals.raw.b.toNat = 171 - t.signals.third.toNat ∧
    85 ≤ t.signals.raw.r.toNat ∧ t.signals.raw.r.toNat ≤ 168 ∧ 88 ≤ t.signals.raw.b.toNat ∧
    t.signals.raw.b.toNat ≤ 171 ∧
    (offset = 0 → t.signals.raw = ⟨85, 0, 171⟩) ∧
    (offset = 31 → t.signals.raw = ⟨168, 0, 88⟩) ∧
    (offset = 16 → packColor t.signals.raw = 0x800080)

/-- R82, over the integers, so no add or subtract wraps. Frame (the model's choice, log entry 1):
only the ports and the wires move. -/
def Obligations.Sec7PinkToRed : Prop :=
  ∀ (offset : Offset) (sat val : Byte) (s : State), ∃ t,
    exec (.sec7 offset sat val) s = .next t ∧
    OnlyTheBlock s t (BitVec.ofNat 8 (32 * 7 + offset.toNat)) sat val ∧
    t.signals.third.toNat = thirdNat offset.toNat ∧
    t.signals.twothirds.toNat = twothirdsNat offset.toNat ∧
    t.signals.raw.r.toNat = 170 + t.signals.third.toNat ∧
    t.signals.raw.g.toNat = 0 ∧
    t.signals.raw.b.toNat = 85 - t.signals.third.toNat ∧
    t.signals.third.toNat ≤ 83 ∧ 170 ≤ t.signals.raw.r.toNat ∧ t.signals.raw.r.toNat ≤ 253 ∧
    2 ≤ t.signals.raw.b.toNat ∧ t.signals.raw.b.toNat ≤ 85 ∧
    (offset = 0 → t.signals.raw = ⟨170, 0, 85⟩) ∧
    (offset = 31 → t.signals.raw = ⟨253, 0, 2⟩) ∧
    (offset = 16 → packColor t.signals.raw = 0xD5002A) ∧
    rawColor 0 = ⟨255, 0, 0⟩

/-- R74, the whole table (`Safety.rawNat`). -/
def Obligations.SectorSelectsItsRow : Prop :=
  ∀ (hue sat val : Byte) (s : State), ∃ t, exec (.hsv2rgb hue sat val) s = .next t ∧
    t.signals.sector.toNat = hue.toNat / 32 ∧ t.signals.offset.toNat = hue.toNat % 32 ∧
    nats t.signals.raw = rawNat hue.toNat

/-- R83. The three hues at which a second channel is zero are 0, 96 and 160. -/
def Obligations.RawColorStaysInItsRange : Prop :=
  ∀ (hue sat val : Byte) (s : State), ∃ t, exec (.hsv2rgb hue sat val) s = .next t ∧
    t.signals.third.toNat ≤ 83 ∧ t.signals.twothirds.toNat ≤ 165 ∧
    nats t.signals.raw = rawNat hue.toNat ∧ RawInRange (hue.toNat / 32) t.signals.raw ∧
    (t.signals.raw.r = 0 ↔ hue.toNat / 32 = 3 ∨ hue.toNat / 32 = 4 ∨ hue = 160) ∧
    (t.signals.raw.g = 0 ↔ hue.toNat / 32 = 5 ∨ hue.toNat / 32 = 6 ∨ hue.toNat / 32 = 7 ∨ hue = 0) ∧
    (t.signals.raw.b = 0 ↔ hue.toNat / 32 = 0 ∨ hue.toNat / 32 = 1 ∨ hue.toNat / 32 = 2 ∨ hue = 96) ∧
    (128 ≤ t.signals.raw.r.toNat ∨ 128 ≤ t.signals.raw.g.toNat ∨ 128 ≤ t.signals.raw.b.toNat)

/-- R86, the two color columns of its table. -/
def Obligations.SectorBoundariesJoin : Prop :=
  ∀ s : State,
    Answers s (.hsv2rgb 31 255 255) 0x00AC5300 ∧ Answers s (.hsv2rgb 32 255 255) 0x00AB5500 ∧
    Answers s (.hsv2rgb 63 255 255) 0x00ABA800 ∧ Answers s (.hsv2rgb 64 255 255) 0x00ABAA00 ∧
    Answers s (.hsv2rgb 95 255 255) 0x0006FD00 ∧ Answers s (.hsv2rgb 96 255 255) 0x0000FF00 ∧
    Answers s (.hsv2rgb 127 255 255) 0x0000AC53 ∧ Answers s (.hsv2rgb 128 255 255) 0x0000AB55 ∧
    Answers s (.hsv2rgb 159 255 255) 0x000006FA ∧ Answers s (.hsv2rgb 160 255 255) 0x000000FF ∧
    Answers s (.hsv2rgb 191 255 255) 0x005300AC ∧ Answers s (.hsv2rgb 192 255 255) 0x005500AB ∧
    Answers s (.hsv2rgb 223 255 255) 0x00A80058 ∧ Answers s (.hsv2rgb 224 255 255) 0x00AA0055 ∧
    Answers s (.hsv2rgb 255 255 255) 0x00FD0002 ∧ Answers s (.hsv2rgb 0 255 255) 0x00FF0000

/-- R86: "Inside a sector one step of hue moves a channel by 2 or 3 where it follows third and by 5
or 6 where it follows twothirds; no boundary step is larger than 6." -/
def Obligations.HueStepsAreSmall : Prop :=
  ∀ (hue sat val : Byte) (s : State), ∃ t u,
    exec (.hsv2rgb hue sat val) s = .next t ∧ exec (.hsv2rgb (hue + 1) sat val) s = .next u ∧
    t.signals.raw.r.toNat ≤ u.signals.raw.r.toNat + 6 ∧
    u.signals.raw.r.toNat ≤ t.signals.raw.r.toNat + 6 ∧
    t.signals.raw.g.toNat ≤ u.signals.raw.g.toNat + 6 ∧
    u.signals.raw.g.toNat ≤ t.signals.raw.g.toNat + 6 ∧
    t.signals.raw.b.toNat ≤ u.signals.raw.b.toNat + 6 ∧
    u.signals.raw.b.toNat ≤ t.signals.raw.b.toNat + 6 ∧
    (hue.toNat % 32 ≠ 31 →
      (u.signals.third.toNat = t.signals.third.toNat + 2 ∨
        u.signals.third.toNat = t.signals.third.toNat + 3) ∧
      (u.signals.twothirds.toNat = t.signals.twothirds.toNat + 5 ∨
        u.signals.twothirds.toNat = t.signals.twothirds.toNat + 6))

/-! ## The desaturation stage (spec/43_desaturate.md) -/

/-- R91. Frame (the model's choice, log entry 1): only the ports and the wires move. -/
def Obligations.SatFullKeepsTheRawColor : Prop :=
  ∀ (hue val : Byte) (s : State), ∃ t, exec (.satFull hue val) s = .next t ∧
    OnlyTheBlock s t hue 255 val ∧
    nats t.signals.raw = rawNat hue.toNat ∧ t.signals.satColor = t.signals.raw ∧
    (hue = 32 → t.signals.raw = ⟨171, 85, 0⟩ ∧ t.signals.satColor = ⟨171, 85, 0⟩)

/-- R92, and R112 for the response: 65793 is 0x010101, one byte in each channel. Frame (the model's
choice, log entry 1): only the ports and the wires move. -/
def Obligations.SatZeroIsWhiteBeforeDimming : Prop :=
  ∀ (hue val : Byte) (s : State), ∃ t, exec (.satZero hue val) s = .next t ∧
    OnlyTheBlock s t hue 0 val ∧ t.signals.satColor = ⟨255, 255, 255⟩ ∧
    (val = 255 → t.rgbO = 0x00FFFFFF) ∧ (val = 0 → t.rgbO = 0) ∧
    t.signals.valp.toNat = videoNat val.toNat val.toNat ∧
    t.signals.out = ⟨t.signals.valp, t.signals.valp, t.signals.valp⟩ ∧
    t.rgbO = packColor ⟨t.signals.valp, t.signals.valp, t.signals.valp⟩ ∧
    t.rgbO.toNat = videoNat val.toNat val.toNat * 65793

/-- R93, over the integers, so no add wraps. Frame (the model's choice, log entry 1): only the ports
and the wires move. (R93's remarks on single values of `sat` are PartialStageCorners.) -/
def Obligations.SatPartialScalesThenAddsTheFloor : Prop :=
  ∀ (hue sat val : Byte) (s : State), 1 ≤ sat.toNat → sat.toNat ≤ 254 → ∃ t,
    exec (.satPartial hue sat val) s = .next t ∧ OnlyTheBlock s t hue sat val ∧
    nats t.signals.raw = rawNat hue.toNat ∧
    t.signals.desat.toNat = 255 - sat.toNat ∧
    t.signals.brightnessFloor.toNat = (255 - sat.toNat) * (256 - sat.toNat) / 256 ∧
    t.signals.brightnessFloor.toNat ≤ 253 ∧
    nats t.signals.scaled = eachNat (fun x => scaleNat x sat.toNat) (rawNat hue.toNat) ∧
    nats t.signals.satColor =
      eachNat (fun x => scaleNat x sat.toNat + t.signals.brightnessFloor.toNat)
        (rawNat hue.toNat) ∧
    (hue = 0 → sat = 128 → t.signals.scaled = ⟨128, 0, 0⟩ ∧ t.signals.satColor = ⟨191, 63, 63⟩)

/-- R94, with the document's request that it be validated; the corrected argument of C8. -/
def Obligations.DesaturationNeverOverflows : Prop :=
  (∀ c sat : Byte, (scale8 c sat).toNat ≤ sat.toNat ∧
      (brightnessFloor sat).toNat ≤ 255 - sat.toNat ∧
      (scale8 c sat).toNat + (brightnessFloor sat).toNat ≤ 255) ∧
    (∀ c sat : Byte, 1 ≤ sat.toNat → sat.toNat ≤ 254 →
      (scale8 c sat).toNat + (brightnessFloor sat).toNat ≤ 254) ∧
    (∀ sat : Byte, 1 ≤ sat.toNat → sat.toNat ≤ 254 →
      ((∃ c : Byte, (scale8 c sat).toNat + (brightnessFloor sat).toNat = 254) ↔
        sat = 1 ∨ sat = 254))

/-- R95. -/
def Obligations.DesaturationIsOneFormula : Prop :=
  (∀ raw : Rgb, satPartial raw 255 = satFull raw ∧ satPartial raw 0 = satZero) ∧
    desat 255 = 0 ∧ brightnessFloor 255 = 0 ∧ desat 0 = 255 ∧ brightnessFloor 0 = 255 ∧
    (∀ (hue sat val : Byte) (s : State), ∃ t, exec (.hsv2rgb hue sat val) s = .next t ∧
      t.signals.satColor =
        ⟨scale8 t.signals.raw.r sat + scale8 (255 - sat) (255 - sat),
          scale8 t.signals.raw.g sat + scale8 (255 - sat) (255 - sat),
          scale8 t.signals.raw.b sat + scale8 (255 - sat) (255 - sat)⟩)

/-- R96, R93. That the scaled channels are formed at `sat` 0 and 255 too, where no case reads them,
is the model's choice (log entry 4). -/
def Obligations.NonZeroTestHasNoEffect : Prop :=
  (∀ frac : Byte, scale8 0 frac = 0) ∧ (∀ c frac : Byte, scaleChannel c frac = scale8 c frac) ∧
    (∀ (hue sat val : Byte) (s : State), ∃ t, exec (.hsv2rgb hue sat val) s = .next t ∧
      t.signals.scaled = ⟨scale8 t.signals.raw.r sat, scale8 t.signals.raw.g sat,
        scale8 t.signals.raw.b sat⟩)

/-! ## The value stage (spec/44_value_scale.md) -/

/-- R102. -/
def Obligations.ValpIsTheBrightnessCurve : Prop :=
  (∀ (hue sat val : Byte) (s : State), ∃ t, exec (.hsv2rgb hue sat val) s = .next t ∧
      t.signals.valp = valpOf val ∧
      t.signals.valp.toNat = (if val = 0 then 0 else val.toNat * val.toNat / 256 + 1) ∧
      (t.signals.valp = 0 ↔ val = 0) ∧
      (t.signals.valp = 1 ↔ 1 ≤ val.toNat ∧ val.toNat ≤ 15) ∧
      (t.signals.valp = 2 ↔ 16 ≤ val.toNat ∧ val.toNat ≤ 22) ∧
      (t.signals.valp = 3 ↔ 23 ≤ val.toNat ∧ val.toNat ≤ 27) ∧
      (t.signals.valp = 4 ↔ 28 ≤ val.toNat ∧ val.toNat ≤ 31) ∧
      (t.signals.valp = 5 ↔ 32 ≤ val.toNat ∧ val.toNat ≤ 35) ∧
      t.signals.valp ≠ 129 ∧ t.signals.valp.toNat ≤ val.toNat) ∧
    (∀ v w : Byte, v.toNat ≤ w.toNat → (valpOf v).toNat ≤ (valpOf w).toNat) ∧
    valpOf 64 = 17 ∧ valpOf 100 = 40 ∧ valpOf 127 = 64 ∧ valpOf 128 = 65 ∧ valpOf 181 = 128 ∧
    valpOf 182 = 130 ∧ valpOf 200 = 157 ∧ valpOf 253 = 251 ∧ valpOf 254 = 253 ∧ valpOf 255 = 255

/-- R101. Frame (the model's choice, log entry 1): only the ports and the wires move. -/
def Obligations.ValFullKeepsTheColor : Prop :=
  ∀ (hue sat : Byte) (s : State), ∃ t, exec (.valFull hue sat) s = .next t ∧
    OnlyTheBlock s t hue sat 255 ∧
    nats t.signals.satColor = desaturateNat sat.toNat (rawNat hue.toNat) ∧
    t.signals.out = t.signals.satColor ∧
    (hue = 0 → sat = 128 → t.signals.satColor = ⟨191, 63, 63⟩ ∧ t.signals.out = ⟨191, 63, 63⟩)

/-- R103. Frame (the model's choice, log entry 1): only the ports and the wires move. -/
def Obligations.ValBlackIsBlack : Prop :=
  (∀ (hue sat : Byte) (s : State), ∃ t, exec (.valBlack hue sat) s = .next t ∧
      OnlyTheBlock s t hue sat 0 ∧ t.signals.out = ⟨0, 0, 0⟩ ∧ t.rgbO = 0x000000 ∧
      Answers s (.hsv2rgb hue sat 0) 0x000000) ∧
    (∀ (hue sat val : Byte) (s : State), ∃ t, exec (.hsv2rgb hue sat val) s = .next t ∧
      (t.signals.predicates.valpZero = true ↔ val = 0))

/-- R104: the multiplies are SCALE8. Frame (the model's choice, log entry 1): only the ports and the
wires move. -/
def Obligations.ValPartialScalesByValp : Prop :=
  ∀ (hue sat val : Byte) (s : State), 1 ≤ val.toNat → val.toNat ≤ 254 → ∃ t,
    exec (.valPartial hue sat val) s = .next t ∧ OnlyTheBlock s t hue sat val ∧
    t.signals.valp.toNat = val.toNat * val.toNat / 256 + 1 ∧ t.signals.valp.toNat ≤ 253 ∧
    nats t.signals.satColor = desaturateNat sat.toNat (rawNat hue.toNat) ∧
    nats t.signals.out =
      eachNat (fun x => scaleNat x t.signals.valp.toNat) (nats t.signals.satColor) ∧
    NotBrighter t.signals.out t.signals.satColor ∧
    NotBrighter t.signals.out ⟨t.signals.valp, t.signals.valp, t.signals.valp⟩ ∧
    (t.signals.out.r = 0 ↔ t.signals.satColor.r.toNat * (t.signals.valp.toNat + 1) < 256) ∧
    (t.signals.out.g = 0 ↔ t.signals.satColor.g.toNat * (t.signals.valp.toNat + 1) < 256) ∧
    (t.signals.out.b = 0 ↔ t.signals.satColor.b.toNat * (t.signals.valp.toNat + 1) < 256) ∧
    (hue = 0 → sat = 128 → val = 128 → t.signals.out = ⟨49, 16, 16⟩ ∧ t.rgbO = 0x311010)

/-- The corner cases of R93 and R104 and the values of the floor. -/
def Obligations.PartialStageCorners : Prop :=
  (∀ c : Rgb, nats (satPartial c 254) = eachNat (fun x => x - 1) (nats c)) ∧
    (∀ c : Rgb, nats (satPartial c 1) = eachNat (fun x => if x ≤ 127 then 253 else 254) (nats c)) ∧
    (∀ sat : Byte, brightnessFloor sat = 0 ↔ 240 ≤ sat.toNat) ∧
    brightnessFloor 239 = 1 ∧ brightnessFloor 128 = 63 ∧ brightnessFloor 127 = 64 ∧
    brightnessFloor 1 = 253 ∧ scale8 2 100 = 0 ∧
    (∀ c : Rgb, nats (valPartial c (valpOf 254)) =
      eachNat (fun x => if x ≤ 128 then x - 1 else x - 2) (nats c)) ∧
    (∀ (c : Rgb) (val : Byte), 1 ≤ val.toNat → val.toNat ≤ 15 →
      nats (valPartial c (valpOf val)) = eachNat (fun x => if 128 ≤ x then 1 else 0) (nats c))

/-- R104: "At `sat = 255` the output is never black for `val >= 1`", and black is not reserved for
`val = 0` (C5). -/
def Obligations.FullSaturationIsBlackOnlyAtZero : Prop :=
  ∀ (hue val : Byte) (s : State), (∃ t, exec (.hsv2rgb hue 255 val) s = .next t ∧
    (t.rgbO = 0 ↔ val = 0)) ∧ Answers s (.hsv2rgb 132 171 1) 0

/-- R105. -/
def Obligations.ValueStageIsOneFormula : Prop :=
  scale8Video 255 255 = 255 ∧ valpOf 0 = 0 ∧
    (∀ c : Byte, scale8 c 255 = c ∧ scale8 c 0 = 0 ∧ scale8 0 c = 0) ∧
    (∀ c : Rgb, valPartial c (valpOf 255) = valFull c ∧ valPartial c (valpOf 0) = valBlack) ∧
    (∀ (hue sat val : Byte) (s : State), ∃ t, exec (.hsv2rgb hue sat val) s = .next t ∧
      t.signals.out =
        ⟨scale8 t.signals.satColor.r (scale8Video val val),
          scale8 t.signals.satColor.g (scale8Video val val),
          scale8 t.signals.satColor.b (scale8Video val val)⟩)

/-- R106. -/
def Obligations.DimmingIsMonotone : Prop :=
  ∀ (hue sat v w : Byte) (s : State), v.toNat ≤ w.toNat → ∃ t u,
    exec (.hsv2rgb hue sat v) s = .next t ∧ exec (.hsv2rgb hue sat w) s = .next u ∧
    NotBrighter t.signals.out u.signals.out ∧ NotBrighter t.signals.out t.signals.satColor

/-! ## The packer and the whole conversion (spec/45_pack_and_convert.md) -/

/-- R110. Frame (the bench is the model's choice, log entry 2): only the PACK output of the bench
moves. -/
def Obligations.PackPlacesTheChannels : Prop :=
  ∀ (r g b : Byte) (s : State), ∃ t, exec (.pack r g b) s = .next t ∧
    t.bench.packOut.toNat = r.toNat * 65536 + g.toNat * 256 + b.toNat ∧
    t.bench.packOut = (0 : Byte) ++ r ++ g ++ b ∧
    t = { s with bench := { s.bench with packOut := t.bench.packOut } } ∧
    (r = 0 → g = 0 → b = 0 → t.bench.packOut = 0) ∧
    (r = 255 → g = 255 → b = 255 → t.bench.packOut = 0x00FFFFFF) ∧
    (r = 171 → g = 85 → b = 0 → t.bench.packOut = 0x00AB5500)

/-- R111. -/
def Obligations.ResponseHoldsTheChannels : Prop :=
  ∀ (hue sat val : Byte) (s : State), ∃ t, exec (.hsv2rgb hue sat val) s = .next t ∧
    t.rgbO.extractLsb' 24 8 = (0 : Byte) ∧ t.rgbO.toNat ≤ 0x00FFFFFF ∧
    t.rgbO.extractLsb' 16 8 = t.signals.out.r ∧ t.rgbO.extractLsb' 8 8 = t.signals.out.g ∧
    t.rgbO.extractLsb' 0 8 = t.signals.out.b

/-- R112 over the integers (`Safety.stepsNat`). Frame (the model's choice, log entry 1): only the
ports and the wires move. -/
def Obligations.ConversionFollowsTheFiveSteps : Prop :=
  ∀ (hue sat val : Byte) (s : State), ∃ t, exec (.hsv2rgb hue sat val) s = .next t ∧
    OnlyTheBlock s t hue sat val ∧
    t.rgbO.toNat = stepsNat hue.toNat sat.toNat val.toNat ∧
    (hue = 183 → sat = 77 → val = 200 → t.rgbO = 0x00574C70)

/-- R114: the one formula over the integers (`Safety.formulaNat`) agrees with the machine, and with
R112's cases, on all 2^24 requests. -/
def Obligations.ConversionIsOneFormula : Prop :=
  ∀ (hue sat val : Byte) (s : State), ∃ t, exec (.hsv2rgb hue sat val) s = .next t ∧
    t.rgbO.toNat = formulaNat hue.toNat sat.toNat val.toNat ∧
    formulaNat hue.toNat sat.toNat val.toNat = stepsNat hue.toNat sat.toNat val.toNat

/-- R115: zero saturation at full value is white for every hue, and "the output can be 0xFFFFFF only
if sat = 0 and val = 255". -/
def Obligations.WhiteExactlyAtZeroSatFullVal : Prop :=
  ∀ (hue sat val : Byte) (s : State), ∃ t, exec (.hsv2rgb hue sat val) s = .next t ∧
    (t.rgbO = 0x00FFFFFF ↔ sat = 0 ∧ val = 255)

/-- R35: every request selects exactly one operation from each group, and the three together make up
the conversion. That a row's meaning shows the whole settled block is the model's choice (log entry
1). -/
def Obligations.RequestRowsAgree : Prop :=
  ∀ (offset : Offset) (hue sat val : Byte) (s : State),
    exec (.sec0 offset sat val) s = exec (.hsv2rgb (BitVec.ofNat 8 offset.toNat) sat val) s ∧
    exec (.sec1 offset sat val) s = exec (.hsv2rgb (BitVec.ofNat 8 (32 + offset.toNat)) sat val) s ∧
    exec (.sec2 offset sat val) s = exec (.hsv2rgb (BitVec.ofNat 8 (64 + offset.toNat)) sat val) s ∧
    exec (.sec3 offset sat val) s = exec (.hsv2rgb (BitVec.ofNat 8 (96 + offset.toNat)) sat val) s ∧
    exec (.sec4 offset sat val) s = exec (.hsv2rgb (BitVec.ofNat 8 (128 + offset.toNat)) sat val) s ∧
    exec (.sec5 offset sat val) s = exec (.hsv2rgb (BitVec.ofNat 8 (160 + offset.toNat)) sat val) s ∧
    exec (.sec6 offset sat val) s = exec (.hsv2rgb (BitVec.ofNat 8 (192 + offset.toNat)) sat val) s ∧
    exec (.sec7 offset sat val) s = exec (.hsv2rgb (BitVec.ofNat 8 (224 + offset.toNat)) sat val) s ∧
    exec (.satFull hue val) s = exec (.hsv2rgb hue 255 val) s ∧
    exec (.satZero hue val) s = exec (.hsv2rgb hue 0 val) s ∧
    (sat ≠ 0 → sat ≠ 255 → exec (.satPartial hue sat val) s = exec (.hsv2rgb hue sat val) s) ∧
    exec (.valFull hue sat) s = exec (.hsv2rgb hue sat 255) s ∧
    exec (.valBlack hue sat) s = exec (.hsv2rgb hue sat 0) s ∧
    (val ≠ 0 → val ≠ 255 → exec (.valPartial hue sat val) s = exec (.hsv2rgb hue sat val) s)

/-- R113: the stages form a chain with no feedback. -/
def Obligations.StagesReadOnlyTheirInputs : Prop :=
  ∀ (h s v h' s' v' : Byte) (x y : State), ∃ t u,
    exec (.hsv2rgb h s v) x = .next t ∧ exec (.hsv2rgb h' s' v') y = .next u ∧
    (h = h' → t.signals.raw = u.signals.raw) ∧
    (h = h' → s = s' → t.signals.satColor = u.signals.satColor) ∧
    (s = s' → t.signals.brightnessFloor = u.signals.brightnessFloor) ∧
    (v = v' → t.signals.valp = u.signals.valp) ∧
    t.signals.satColor = desaturate t.signals.raw s ∧
    t.signals.out = valueScale t.signals.satColor v ∧
    t.rgbO = packColor t.signals.out

/-! ## The machine: stepping, faults, purity, invariants -/

/-- R120: "no operation faults, none is refused, none is stuck, none hangs". -/
def Obligations.EveryOperationCompletes : Prop :=
  ∀ (i : Instr) (s : State), ∃ t, exec i s = .next t

/-- The step, in the model's own names; the target is the model's own (log entry 2). -/
def Obligations.StepRunsTheDecodedOperation : Prop :=
  (∀ (s : State) (i : Instr), decode s.target s.operandBytes = .ok i → step s = exec i s) ∧
    (∀ s : State, s.target = .whole → step s = exec (.hsv2rgb s.hueI s.satI s.valI) s)

/-- R39, R116: every one of the 2^24 requests is answered; R16: the output is HSV2RGB of the ports.
The model's choices in it: a step on a target SEC, SAT or VAL settles the whole block (log entry 1),
and the target and the bench, which stay as before, are the model's own (log entry 2). -/
def Obligations.RequestStepsAlwaysAnswer : Prop :=
  ∀ s : State, IsRequestTarget s.target → ∃ t, step s = .next t ∧
    OnlyTheBlock s t s.hueI s.satI s.valI ∧
    t.rgbO.toNat = formulaNat s.hueI.toNat s.satI.toNat s.valI.toNat

/-- R42's fixed bits of the group `use`. The refusal of a word that is not of the row is the model's
choice (log entry 2). -/
def Obligations.OnlyForeignUseWordsAreRefused : Prop :=
  ∀ s : State, (∀ f, step s ≠ .fault f) ∧
    ((∃ r, step s = .refused r) ↔
      (s.target = .third ∧ (s.laneA.toNat * 256 + s.laneB.toNat) % 2048 ≠ 0x055) ∨
      (s.target = .twothirds ∧ (s.laneA.toNat * 256 + s.laneB.toNat) % 2048 ≠ 0x0AA))

/-- The encoder, the fetch, the decoder and exec fit together for all 21 rows. The words and the
rows are those of R33, R35 and R42. That a sub-unit's word can be put on inputs and stepped at all
is the model's choice (log entry 2), and so is that the output follows the ports with no lag (log
entry 8). -/
def Obligations.EveryRowRunsThroughStep : Prop :=
  ∀ (i : Instr) (s : State), i.wellFormed = true →
    let x := s.place (encode i).target (encode i).bytes
    step x = exec i x ∧ (∃ t, step x = .next t) ∧
      x.target = (encode i).target ∧ OnlyTheInputs s x ∧ (IsRequestTarget x.target → Settled x)

/-- The host's two fixed names fit together. The model's choices in it: which row a bare word names
(log entry 3), the bench (log entry 2), and that the output follows the ports with no lag (log entry
8). -/
def Obligations.FetchWordRunsNext : Prop :=
  ∀ (s : State) (nbits w : Nat) (i : Instr), decodeTableWord nbits w = some i →
    step (s.withFetchWord nbits w) = exec i (s.withFetchWord nbits w) ∧
    OnlyTheInputs s (s.withFetchWord nbits w) ∧
    (IsRequestTarget (s.withFetchWord nbits w).target → Settled (s.withFetchWord nbits w))

/-- R23: "evaluating the same request twice, or never, changes nothing (idempotent)". -/
def Obligations.EvaluationIsIdempotent : Prop :=
  (∀ (i : Instr) (s t : State), exec i s = .next t → exec i t = .next t) ∧
    (∀ s t : State, step s = .next t → step t = .next t)

/-- R10: "The output of an evaluation depends on the three inputs of that evaluation and on nothing
else". -/
def Obligations.NoHiddenState : Prop :=
  ∀ x y : State, IsRequestTarget x.target → IsRequestTarget y.target →
    x.hueI = y.hueI → x.satI = y.satI → x.valI = y.valI →
    ∃ t u, step x = .next t ∧ step y = .next u ∧ t.rgbO = u.rgbO ∧ t.signals = u.signals

/-- R16: "At all times rgb_o = HSV2RGB(hue_i, sat_i, val_i)", as an invariant of the step and of
every operation by which the host moves the ports (`Safety.Settled`). That the output has no lag,
`T_PD` being open, is the model's choice (log entry 8). -/
def Obligations.OutputAlwaysFollowsTheInputs : Prop :=
  (∀ s t : State, step s = .next t → (Settled s ∨ IsRequestTarget s.target) → Settled t) ∧
    (∀ (s : State) (hue sat val : Byte), Settled (s.present hue sat val)) ∧
    (∀ (s : State) (t : Target) (bytes : List Byte), Settled s → Settled (s.place t bytes)) ∧
    (∀ (s : State) (nbits w : Nat), Settled s → Settled (s.withFetchWord nbits w))

/-- The ranges of R18 and R83 (`Safety.SignalsInRange`), and the predicates of R13 and the products
of R54 and R63 over the integers (`Safety.SignalsExact`), as invariants of the step, and after
HSV2RGB. That a predicate or product is formed where the case does not read it is the model's choice
(log entry 4). -/
def Obligations.SignalRangesAreKept : Prop :=
  (∀ s t : State, SignalsInRange s → step s = .next t → SignalsInRange t) ∧
    (∀ s t : State, SignalsExact s → step s = .next t → SignalsExact t) ∧
    (∀ (hue sat val : Byte) (s : State), ∃ t, exec (.hsv2rgb hue sat val) s = .next t ∧
      OnlyTheBlock s t hue sat val ∧ SignalsInRange t ∧ SignalsExact t)

/-- R19: there is nothing to reset; the inputs at reset are the model's choice (log entry 5). -/
def Obligations.ResetIsSettledAndInRange : Prop :=
  Settled State.reset ∧ SignalsInRange State.reset ∧ State.reset.target = .whole ∧
    step State.reset = .next State.reset

/-! ## Encoding (spec/30_encoding.md) -/

/-- No operand bit of any format is dropped, and no two rows of a target share a word of theirs. -/
def Obligations.DecodeOfEncode : Prop :=
  ∀ i : Instr, i.wellFormed = true → decode (encode i).target (encode i).bytes = .ok i

/-- R39: every one of the 2^24 request words is legal and has exactly one meaning in each group. -/
def Obligations.EncodeOfDecode : Prop :=
  (∀ (t : Target) (bytes : List Byte) (i : Instr), decode t bytes = .ok i →
      i.wellFormed = true ∧ encode i = ⟨t, bytes⟩) ∧
    (∀ (t : Target) (hue sat val : Byte), IsRequestTarget t →
      ∃ i, decode t [hue, sat, val] = .ok i)

/-- R35, the decoder against the rows of spec/opcode_table.json (`opcodeTable`). -/
def Obligations.TableSelectsTheDecodedRow : Prop :=
  ∀ hue sat val : Byte,
    (∀ t : Target, t = .sector ∨ t = .sat ∨ t = .val →
      ∃ i row, decode t [hue, sat, val] = .ok i ∧
        selectRow t (hue.toNat * 65536 + sat.toNat * 256 + val.toNat) = some row ∧
        i.mnemonic = row.mnemonic) ∧
    (decodeSector hue sat val).mnemonic =
      ["SEC0", "SEC1", "SEC2", "SEC3", "SEC4", "SEC5", "SEC6", "SEC7"].getD (hue.toNat / 32) "" ∧
    (decodeSat hue sat val).mnemonic =
      (if sat = 255 then "SAT_FULL" else if sat = 0 then "SAT_ZERO" else "SAT_PARTIAL") ∧
    (decodeVal hue sat val).mnemonic =
      (if val = 255 then "VAL_FULL" else if val = 0 then "VAL_BLACK" else "VAL_PARTIAL")

/-- Sanity: words written from the patterns of spec/opcode_table.json. -/
def Obligations.WrittenWordsDecode : Prop :=
  decode .sector [0b00100000, 0b11111111, 0b11111111] = .ok (.sec1 0 255 255) ∧
    decode .sat [0b00100000, 0b11111111, 0b11111111] = .ok (.satFull 32 255) ∧
    decode .val [0b00100000, 0b11111111, 0b11111111] = .ok (.valFull 32 255) ∧
    decode .whole [0b00100000, 0b11111111, 0b11111111] = .ok (.hsv2rgb 32 255 255) ∧
    decode .third [0b10111000, 0b01010101] = .ok (.third 23) ∧
    decode .twothirds [0b10111000, 0b10101010] = .ok (.twothirds 23) ∧
    decode .scale8 [0b11111000, 0b01010101] = .ok (.scale8 248 85) ∧
    decode .split [0b10110111] = .ok (.split 0xB7) ∧
    decode .pack [0b10101011, 0b01010101, 0b00000000] = .ok (.pack 171 85 0)

/-! ## The host's side of the ports (spec/60_exceptions.md rule R128, spec/70 rule R148) -/

/-- R148: "a run of a host that presents n requests consists of n independent evaluations"; R26(a),
(b). -/
def Obligations.RequestsAreServedIndependently : Prop :=
  ∀ (rs : List Request) (s : State),
    (serve s rs).map BitVec.toNat =
      rs.map fun r => formulaNat r.hue.toNat r.sat.toNat r.val.toNat

/-- R128's two legal values of HOST_RANGE_POLICY; negative arguments are N10's (log entry 7). -/
def Obligations.HostPoliciesAreTheTwo : Prop :=
  (∀ (p : HostRangePolicy) (n : Int), 0 ≤ n → n ≤ 255 →
      ∃ b, adaptArg p n = some b ∧ (b.toNat : Int) = n) ∧
    (∀ n : Int, 255 < n → ∃ b, adaptArg .truncate n = some b ∧ (b.toNat : Int) = n % 256) ∧
    (∀ n : Int, n < 0 ∨ 255 < n →
      adaptArg .reject n = none ∧ ∃ b, adaptArg .truncate n = some b) ∧
    (∀ (s : State) (h k v : Int), (h < 0 ∨ 255 < h) ∨ (k < 0 ∨ 255 < k) ∨ (v < 0 ∨ 255 < v) →
      callUnder .reject s h k v = some (.rangeError, s)) ∧
    (∀ (p : HostRangePolicy) (s : State) (h k v : Nat), h ≤ 255 → k ≤ 255 → v ≤ 255 →
      ∃ w t, callUnder p s h k v = some (.response w, t) ∧ w.toNat = formulaNat h k v) ∧
    (∀ (s : State) (h k v : Nat), ∃ w t, callUnder .truncate s h k v = some (.response w, t) ∧
      w.toNat = formulaNat (h % 256) (k % 256) (v % 256) ∧ t.hueI.toNat = h % 256 ∧
      t.satI.toNat = k % 256 ∧ t.valI.toNat = v % 256 ∧ t.rgbO = w) ∧
    (∀ (s : State) (h k v : Int), ∃ q w t, adapt .truncate h k v = some q ∧
      callUnder .truncate s h k v = some (.response w, t) ∧
      w.toNat = formulaNat q.hue.toNat q.sat.toNat q.val.toNat)
end

