-- ==== Sys2Proof/Laws/Arith.lean ====
section
/-!
SUPPORT. Each combinational sub-unit over the natural numbers, once: the lemmas that turn the
model's bit vectors into the integer formulas of the rules.
-/
namespace Sys2Proof

/-! ### Fields of `hue` (R31) -/

@[simp] theorem sectorField_toNat (hue : Byte) : (sectorField hue).toNat = hue.toNat / 32 := by
  have := hue.isLt
  simp [sectorField, Nat.shiftRight_eq_div_pow]
  omega

@[simp] theorem offsetField_toNat (hue : Byte) : (offsetField hue).toNat = hue.toNat % 32 := by
  simp [offsetField]

@[simp] theorem hueOf_toNat (c : Sector) (o : Offset) :
    (hueOf c o).toNat = 32 * c.toNat + o.toNat := by
  have := o.isLt
  have h : (hueOf c o).toNat = c.toNat <<< 5 ||| o.toNat := BitVec.toNat_append c o
  rw [h, ← Nat.shiftLeft_add_eq_or_of_lt this, Nat.shiftLeft_eq]
  omega

@[simp] theorem sectorField_hueOf (c : Sector) (o : Offset) : sectorField (hueOf c o) = c := by
  apply BitVec.eq_of_toNat_eq
  have := o.isLt
  simp
  omega

@[simp] theorem offsetField_hueOf (c : Sector) (o : Offset) : offsetField (hueOf c o) = o := by
  apply BitVec.eq_of_toNat_eq
  have := o.isLt
  simp
  omega

/-- A hue is its sector and its offset. -/
theorem hueOf_fields (hue : Byte) : hueOf (sectorField hue) (offsetField hue) = hue := by
  apply BitVec.eq_of_toNat_eq
  simp
  omega

namespace Machine

/-! ### Operands (R34) -/

@[simp] theorem offset8_toNat (o : Offset) : (offset8 o).toNat = 8 * o.toNat := by
  have h : (offset8 o).toNat = o.toNat <<< 3 ||| (0#3).toNat := BitVec.toNat_append o 0#3
  rw [h, Nat.shiftLeft_eq]
  simp
  omega

@[simp] theorem desat_toNat (sat : Byte) : (desat sat).toNat = 255 - sat.toNat := by
  have := sat.isLt
  simp [desat]
  omega

@[simp] theorem onePlus_toNat (frac : Byte) : (onePlus frac).toNat = 1 + frac.toNat := by
  have := frac.isLt
  simp [onePlus]
  omega

/-! ### The multipliers (R50, R51, R60, R62) -/

/-- A product of two factors below 256 and at most 256 fits 16 bits (R51). -/
theorem mul_le_65280 {a b : Nat} (ha : a ≤ 255) (hb : b ≤ 256) : a * b ≤ 65280 :=
  Nat.mul_le_mul ha hb

@[simp] theorem scale8Product_toNat (i frac : Byte) :
    (scale8Product i frac).toNat = i.toNat * (1 + frac.toNat) := by
  have hi := i.isLt
  have hf := frac.isLt
  have := mul_le_65280 (a := i.toNat) (b := 1 + frac.toNat) (by omega) (by omega)
  simp only [scale8Product, BitVec.toNat_mul, BitVec.toNat_setWidth, onePlus_toNat]
  rw [Nat.mod_eq_of_lt (a := i.toNat) (by omega), Nat.mod_eq_of_lt (a := 1 + frac.toNat) (by omega),
    Nat.mod_eq_of_lt (by omega)]

@[simp] theorem scale8_toNat (i frac : Byte) :
    (scale8 i frac).toNat = i.toNat * (1 + frac.toNat) / 256 := by
  have hi := i.isLt
  have hf := frac.isLt
  have := mul_le_65280 (a := i.toNat) (b := 1 + frac.toNat) (by omega) (by omega)
  simp only [scale8, BitVec.extractLsb'_toNat, scale8Product_toNat, Nat.shiftRight_eq_div_pow]
  omega

@[simp] theorem videoProduct_toNat (i scale : Byte) :
    (videoProduct i scale).toNat = i.toNat * scale.toNat := by
  have hi := i.isLt
  have hf := scale.isLt
  have := mul_le_65280 (a := i.toNat) (b := scale.toNat) (by omega) (by omega)
  simp only [videoProduct, BitVec.toNat_mul, BitVec.toNat_setWidth]
  rw [Nat.mod_eq_of_lt (a := i.toNat) (by omega), Nat.mod_eq_of_lt (a := scale.toNat) (by omega),
    Nat.mod_eq_of_lt (by omega)]

/-- The product of SCALE8_VIDEO stays below `255 * 255` (R62). -/
theorem videoProduct_le (i scale : Byte) : i.toNat * scale.toNat ≤ 65025 := by
  have hi := i.isLt
  have hf := scale.isLt
  exact Nat.mul_le_mul (by omega : i.toNat ≤ 255) (by omega : scale.toNat ≤ 255)

theorem chanNonzero_iff (c : Byte) : chanNonzero c = true ↔ c ≠ 0 := by simp [chanNonzero]

@[simp] theorem scale8Video_toNat (i scale : Byte) :
    (scale8Video i scale).toNat =
      i.toNat * scale.toNat / 256 + (if i ≠ 0 ∧ scale ≠ 0 then 1 else 0) := by
  have := videoProduct_le i scale
  have hq : ((videoProduct i scale).extractLsb' 8 8).toNat = i.toNat * scale.toNat / 256 := by
    simp only [BitVec.extractLsb'_toNat, videoProduct_toNat, Nat.shiftRight_eq_div_pow]
    omega
  by_cases h : i ≠ 0 ∧ scale ≠ 0
  · have hc : (chanNonzero i && chanNonzero scale) = true := by
      simpa [chanNonzero] using h
    rw [scale8Video, hc, if_pos rfl, if_pos h, BitVec.toNat_add, hq]
    simp
    omega
  · have hc : (chanNonzero i && chanNonzero scale) = false := by
      rw [Bool.eq_false_iff]
      simpa [chanNonzero, Classical.or_iff_not_imp_left] using h
    rw [scale8Video, hc, if_neg (by simp), if_neg h]
    simpa using hq

/-! ### The interpolants (R72, R73) -/

@[simp] theorem third_toNat (o : Offset) : (third o).toNat = 43 * o.toNat / 16 := by
  simp [third, fracThird]
  omega

@[simp] theorem twothirds_toNat (o : Offset) : (twothirds o).toNat = 171 * o.toNat / 32 := by
  simp [twothirds, fracTwothirds]
  omega

theorem third_le (o : Offset) : (third o).toNat ≤ 83 := by
  have := o.isLt
  simp
  omega

theorem twothirds_le (o : Offset) : (twothirds o).toNat ≤ 165 := by
  have := o.isLt
  simp
  omega

/-! ### The stages -/

/-- A zero channel stays zero through the multiplier. -/
theorem scale8_zero_left (frac : Byte) : scale8 0 frac = 0 := by
  apply BitVec.eq_of_toNat_eq
  simp

/-- The multiplier behind the non-zero test is the multiplier. -/
@[simp] theorem scaleChannel_eq (c frac : Byte) : scaleChannel c frac = scale8 c frac := by
  unfold scaleChannel
  split
  · rfl
  · rename_i h
    have hc : c = 0 := by simpa [chanNonzero] using h
    rw [hc, scale8_zero_left]

@[simp] theorem brightnessFloor_toNat (sat : Byte) :
    (brightnessFloor sat).toNat = (255 - sat.toNat) * (1 + (255 - sat.toNat)) / 256 := by
  simp [brightnessFloor]

@[simp] theorem packRgb_toNat (r g b : Byte) :
    (packRgb r g b).toNat = r.toNat * 65536 + g.toNat * 256 + b.toNat := by
  have hr := r.isLt
  have hg := g.isLt
  have hb := b.isLt
  have h : (packRgb r g b).toNat = r.toNat <<< 16 ||| g.toNat <<< 8 ||| b.toNat := by
    simp only [packRgb, BitVec.toNat_or, BitVec.toNat_shiftLeft, BitVec.toNat_setWidth]
    rw [Nat.mod_eq_of_lt (a := r.toNat) (by omega), Nat.mod_eq_of_lt (a := g.toNat) (by omega),
      Nat.mod_eq_of_lt (a := b.toNat) (by omega), Nat.shiftLeft_eq, Nat.shiftLeft_eq,
      Nat.mod_eq_of_lt (by omega), Nat.mod_eq_of_lt (by omega)]
  have hgb : g.toNat <<< 8 ||| b.toNat < 2 ^ 16 := by
    rw [← Nat.shiftLeft_add_eq_or_of_lt hb, Nat.shiftLeft_eq]
    omega
  rw [h, Nat.or_assoc, ← Nat.shiftLeft_add_eq_or_of_lt hgb, ← Nat.shiftLeft_add_eq_or_of_lt hb]
  simp only [Nat.shiftLeft_eq]
  omega

end Machine

end Sys2Proof
end

