-- ==== Sys2Proof/Laws/Signals.lean ====
section
/-!
SUPPORT. One lemma per wire of an assembled evaluation, each true by `rfl`.
-/
namespace Sys2Proof.Machine

variable (h k v : Byte) (raw satC out : Rgb)

@[simp] theorem assemble_sector : (assemble h k v raw satC out).sector = sectorField h := rfl
@[simp] theorem assemble_offset : (assemble h k v raw satC out).offset = offsetField h := rfl
@[simp] theorem assemble_offset8 : (assemble h k v raw satC out).offset8 = offset8 (offsetField h) := rfl
@[simp] theorem assemble_third : (assemble h k v raw satC out).third = third (offsetField h) := rfl
@[simp] theorem assemble_twothirds : (assemble h k v raw satC out).twothirds = twothirds (offsetField h) := rfl
@[simp] theorem assemble_raw : (assemble h k v raw satC out).raw = raw := rfl
@[simp] theorem assemble_scaled : (assemble h k v raw satC out).scaled = scaleColor raw k := rfl
@[simp] theorem assemble_desat : (assemble h k v raw satC out).desat = desat k := rfl
@[simp] theorem assemble_brightnessFloor : (assemble h k v raw satC out).brightnessFloor = brightnessFloor k := rfl
@[simp] theorem assemble_satColor : (assemble h k v raw satC out).satColor = satC := rfl
@[simp] theorem assemble_valp : (assemble h k v raw satC out).valp = valpOf v := rfl
@[simp] theorem assemble_out : (assemble h k v raw satC out).out = out := rfl
@[simp] theorem assemble_predicates : (assemble h k v raw satC out).predicates = predicatesOf k v raw satC := rfl
@[simp] theorem assemble_products : (assemble h k v raw satC out).products = productsOf h k v raw satC := rfl

@[simp] theorem predicatesOf_satFull : (predicatesOf k v raw satC).satFull = isSatFull k := rfl
@[simp] theorem predicatesOf_satZero : (predicatesOf k v raw satC).satZero = isSatZero k := rfl
@[simp] theorem predicatesOf_valFull : (predicatesOf k v raw satC).valFull = isValFull v := rfl
@[simp] theorem predicatesOf_valpZero :
    (predicatesOf k v raw satC).valpZero = isValpZero (valpOf v) := rfl

/-- The wires of a request are those assembled from its own three colors. -/
theorem signalsOf_eq :
    signalsOf h k v = assemble h k v (rawColor h) (desaturate (rawColor h) k)
      (valueScale (desaturate (rawColor h) k) v) := rfl

end Sys2Proof.Machine
end

