-- ==== Sys2Proof/Laws/State.lean ====
section
/-!
SUPPORT. One lemma per field per update of `State`, each true by `rfl`, so that no proof unfolds a
record update.
-/
namespace Sys2Proof.Machine

variable (s : State)

/-- Settling from the saturated color is settling with Step 4 applied. -/
@[simp] theorem State.settleFromSat_eq (h k v : Byte) (raw satC : Rgb) :
    s.settleFromSat h k v raw satC = s.settle h k v raw satC (valueScale satC v) := rfl

/-- Settling from the raw color is settling with Steps 3 and 4 applied. -/
@[simp] theorem State.settleFromRaw_eq (h k v : Byte) (raw : Rgb) :
    s.settleFromRaw h k v raw =
      s.settle h k v raw (desaturate raw k) (valueScale (desaturate raw k) v) := rfl

/-- Driving a request is settling with Steps 2, 3 and 4 applied. -/
@[simp] theorem State.evaluate_eq (h k v : Byte) :
    s.evaluate h k v =
      s.settle h k v (rawColor h) (desaturate (rawColor h) k)
        (valueScale (desaturate (rawColor h) k) v) := rfl

/-- Settling again overrides the earlier settling whole. -/
@[simp] theorem State.settle_settle (h k v h' k' v' : Byte) (raw satC out raw' satC' out' : Rgb) :
    (s.settle h k v raw satC out).settle h' k' v' raw' satC' out' =
      s.settle h' k' v' raw' satC' out' := rfl

/-! ### `settle` -/

@[simp] theorem State.settle_hueI (h k v : Byte) (raw satC out : Rgb) :
    (s.settle h k v raw satC out).hueI = h := rfl
@[simp] theorem State.settle_satI (h k v : Byte) (raw satC out : Rgb) :
    (s.settle h k v raw satC out).satI = k := rfl
@[simp] theorem State.settle_valI (h k v : Byte) (raw satC out : Rgb) :
    (s.settle h k v raw satC out).valI = v := rfl
@[simp] theorem State.settle_rgbO (h k v : Byte) (raw satC out : Rgb) :
    (s.settle h k v raw satC out).rgbO = packColor out := rfl
@[simp] theorem State.settle_signals (h k v : Byte) (raw satC out : Rgb) :
    (s.settle h k v raw satC out).signals = assemble h k v raw satC out := rfl
@[simp] theorem State.settle_target (h k v : Byte) (raw satC out : Rgb) :
    (s.settle h k v raw satC out).target = s.target := rfl
@[simp] theorem State.settle_laneA (h k v : Byte) (raw satC out : Rgb) :
    (s.settle h k v raw satC out).laneA = s.laneA := rfl
@[simp] theorem State.settle_laneB (h k v : Byte) (raw satC out : Rgb) :
    (s.settle h k v raw satC out).laneB = s.laneB := rfl
@[simp] theorem State.settle_laneC (h k v : Byte) (raw satC out : Rgb) :
    (s.settle h k v raw satC out).laneC = s.laneC := rfl
@[simp] theorem State.settle_bench (h k v : Byte) (raw satC out : Rgb) :
    (s.settle h k v raw satC out).bench = s.bench := rfl

/-! ### `driveScale8` -/

@[simp] theorem State.driveScale8_hueI (p : Product) (x : Byte) :
    (s.driveScale8 p x).hueI = s.hueI := rfl
@[simp] theorem State.driveScale8_satI (p : Product) (x : Byte) :
    (s.driveScale8 p x).satI = s.satI := rfl
@[simp] theorem State.driveScale8_valI (p : Product) (x : Byte) :
    (s.driveScale8 p x).valI = s.valI := rfl
@[simp] theorem State.driveScale8_rgbO (p : Product) (x : Byte) :
    (s.driveScale8 p x).rgbO = s.rgbO := rfl
@[simp] theorem State.driveScale8_signals (p : Product) (x : Byte) :
    (s.driveScale8 p x).signals = s.signals := rfl
@[simp] theorem State.driveScale8_target (p : Product) (x : Byte) :
    (s.driveScale8 p x).target = s.target := rfl
@[simp] theorem State.driveScale8_laneA (p : Product) (x : Byte) :
    (s.driveScale8 p x).laneA = s.laneA := rfl
@[simp] theorem State.driveScale8_laneB (p : Product) (x : Byte) :
    (s.driveScale8 p x).laneB = s.laneB := rfl
@[simp] theorem State.driveScale8_laneC (p : Product) (x : Byte) :
    (s.driveScale8 p x).laneC = s.laneC := rfl
@[simp] theorem State.driveScale8_bench (p : Product) (x : Byte) :
    (s.driveScale8 p x).bench = { s.bench with scale8Product := p, scale8Out := x } := rfl

/-! ### `driveVideo` -/

@[simp] theorem State.driveVideo_hueI (p : Product) (x : Byte) :
    (s.driveVideo p x).hueI = s.hueI := rfl
@[simp] theorem State.driveVideo_satI (p : Product) (x : Byte) :
    (s.driveVideo p x).satI = s.satI := rfl
@[simp] theorem State.driveVideo_valI (p : Product) (x : Byte) :
    (s.driveVideo p x).valI = s.valI := rfl
@[simp] theorem State.driveVideo_rgbO (p : Product) (x : Byte) :
    (s.driveVideo p x).rgbO = s.rgbO := rfl
@[simp] theorem State.driveVideo_signals (p : Product) (x : Byte) :
    (s.driveVideo p x).signals = s.signals := rfl
@[simp] theorem State.driveVideo_target (p : Product) (x : Byte) :
    (s.driveVideo p x).target = s.target := rfl
@[simp] theorem State.driveVideo_laneA (p : Product) (x : Byte) :
    (s.driveVideo p x).laneA = s.laneA := rfl
@[simp] theorem State.driveVideo_laneB (p : Product) (x : Byte) :
    (s.driveVideo p x).laneB = s.laneB := rfl
@[simp] theorem State.driveVideo_laneC (p : Product) (x : Byte) :
    (s.driveVideo p x).laneC = s.laneC := rfl
@[simp] theorem State.driveVideo_bench (p : Product) (x : Byte) :
    (s.driveVideo p x).bench = { s.bench with videoProduct := p, videoOut := x } := rfl

/-! ### `driveSplit` -/

@[simp] theorem State.driveSplit_hueI (c : Sector) (o : Offset) :
    (s.driveSplit c o).hueI = s.hueI := rfl
@[simp] theorem State.driveSplit_satI (c : Sector) (o : Offset) :
    (s.driveSplit c o).satI = s.satI := rfl
@[simp] theorem State.driveSplit_valI (c : Sector) (o : Offset) :
    (s.driveSplit c o).valI = s.valI := rfl
@[simp] theorem State.driveSplit_rgbO (c : Sector) (o : Offset) :
    (s.driveSplit c o).rgbO = s.rgbO := rfl
@[simp] theorem State.driveSplit_signals (c : Sector) (o : Offset) :
    (s.driveSplit c o).signals = s.signals := rfl
@[simp] theorem State.driveSplit_target (c : Sector) (o : Offset) :
    (s.driveSplit c o).target = s.target := rfl
@[simp] theorem State.driveSplit_laneA (c : Sector) (o : Offset) :
    (s.driveSplit c o).laneA = s.laneA := rfl
@[simp] theorem State.driveSplit_laneB (c : Sector) (o : Offset) :
    (s.driveSplit c o).laneB = s.laneB := rfl
@[simp] theorem State.driveSplit_laneC (c : Sector) (o : Offset) :
    (s.driveSplit c o).laneC = s.laneC := rfl
@[simp] theorem State.driveSplit_bench (c : Sector) (o : Offset) :
    (s.driveSplit c o).bench = { s.bench with splitSector := c, splitOffset := o } := rfl

/-! ### `drivePack` -/

@[simp] theorem State.drivePack_hueI (w : RgbWord) :
    (s.drivePack w).hueI = s.hueI := rfl
@[simp] theorem State.drivePack_satI (w : RgbWord) :
    (s.drivePack w).satI = s.satI := rfl
@[simp] theorem State.drivePack_valI (w : RgbWord) :
    (s.drivePack w).valI = s.valI := rfl
@[simp] theorem State.drivePack_rgbO (w : RgbWord) :
    (s.drivePack w).rgbO = s.rgbO := rfl
@[simp] theorem State.drivePack_signals (w : RgbWord) :
    (s.drivePack w).signals = s.signals := rfl
@[simp] theorem State.drivePack_target (w : RgbWord) :
    (s.drivePack w).target = s.target := rfl
@[simp] theorem State.drivePack_laneA (w : RgbWord) :
    (s.drivePack w).laneA = s.laneA := rfl
@[simp] theorem State.drivePack_laneB (w : RgbWord) :
    (s.drivePack w).laneB = s.laneB := rfl
@[simp] theorem State.drivePack_laneC (w : RgbWord) :
    (s.drivePack w).laneC = s.laneC := rfl
@[simp] theorem State.drivePack_bench (w : RgbWord) :
    (s.drivePack w).bench = { s.bench with packOut := w } := rfl

/-! ### `driveThird` -/

@[simp] theorem State.driveThird_hueI (x : Byte) :
    (s.driveThird x).hueI = s.hueI := rfl
@[simp] theorem State.driveThird_satI (x : Byte) :
    (s.driveThird x).satI = s.satI := rfl
@[simp] theorem State.driveThird_valI (x : Byte) :
    (s.driveThird x).valI = s.valI := rfl
@[simp] theorem State.driveThird_rgbO (x : Byte) :
    (s.driveThird x).rgbO = s.rgbO := rfl
@[simp] theorem State.driveThird_signals (x : Byte) :
    (s.driveThird x).signals = s.signals := rfl
@[simp] theorem State.driveThird_target (x : Byte) :
    (s.driveThird x).target = s.target := rfl
@[simp] theorem State.driveThird_laneA (x : Byte) :
    (s.driveThird x).laneA = s.laneA := rfl
@[simp] theorem State.driveThird_laneB (x : Byte) :
    (s.driveThird x).laneB = s.laneB := rfl
@[simp] theorem State.driveThird_laneC (x : Byte) :
    (s.driveThird x).laneC = s.laneC := rfl
@[simp] theorem State.driveThird_bench (x : Byte) :
    (s.driveThird x).bench = { s.bench with thirdOut := x } := rfl

/-! ### `driveTwothirds` -/

@[simp] theorem State.driveTwothirds_hueI (x : Byte) :
    (s.driveTwothirds x).hueI = s.hueI := rfl
@[simp] theorem State.driveTwothirds_satI (x : Byte) :
    (s.driveTwothirds x).satI = s.satI := rfl
@[simp] theorem State.driveTwothirds_valI (x : Byte) :
    (s.driveTwothirds x).valI = s.valI := rfl
@[simp] theorem State.driveTwothirds_rgbO (x : Byte) :
    (s.driveTwothirds x).rgbO = s.rgbO := rfl
@[simp] theorem State.driveTwothirds_signals (x : Byte) :
    (s.driveTwothirds x).signals = s.signals := rfl
@[simp] theorem State.driveTwothirds_target (x : Byte) :
    (s.driveTwothirds x).target = s.target := rfl
@[simp] theorem State.driveTwothirds_laneA (x : Byte) :
    (s.driveTwothirds x).laneA = s.laneA := rfl
@[simp] theorem State.driveTwothirds_laneB (x : Byte) :
    (s.driveTwothirds x).laneB = s.laneB := rfl
@[simp] theorem State.driveTwothirds_laneC (x : Byte) :
    (s.driveTwothirds x).laneC = s.laneC := rfl
@[simp] theorem State.driveTwothirds_bench (x : Byte) :
    (s.driveTwothirds x).bench = { s.bench with twothirdsOut := x } := rfl

/-! ### `present` -/

@[simp] theorem State.present_hueI (h k v : Byte) :
    (s.present h k v).hueI = h := rfl
@[simp] theorem State.present_satI (h k v : Byte) :
    (s.present h k v).satI = k := rfl
@[simp] theorem State.present_valI (h k v : Byte) :
    (s.present h k v).valI = v := rfl
@[simp] theorem State.present_rgbO (h k v : Byte) :
    (s.present h k v).rgbO = convert h k v := rfl
@[simp] theorem State.present_signals (h k v : Byte) :
    (s.present h k v).signals = signalsOf h k v := rfl
@[simp] theorem State.present_target (h k v : Byte) :
    (s.present h k v).target = .whole := rfl
@[simp] theorem State.present_laneA (h k v : Byte) :
    (s.present h k v).laneA = s.laneA := rfl
@[simp] theorem State.present_laneB (h k v : Byte) :
    (s.present h k v).laneB = s.laneB := rfl
@[simp] theorem State.present_laneC (h k v : Byte) :
    (s.present h k v).laneC = s.laneC := rfl
@[simp] theorem State.present_bench (h k v : Byte) :
    (s.present h k v).bench = s.bench := rfl

end Sys2Proof.Machine
end

