-- ==== Sys2Proof/Laws/Exec.lean ====
section
/-!
SUPPORT. What each operation does, as one equation each, and what a step can do at all.
-/
namespace Sys2Proof.Machine

variable (s : State)

/-! ### One equation per operation -/

@[simp] theorem exec_hsv2rgb (hue sat val : Byte) :
    exec (.hsv2rgb hue sat val) s =
      .next (s.settle hue sat val (rawColor hue) (desaturate (rawColor hue) sat)
        (valueScale (desaturate (rawColor hue) sat) val)) := rfl

@[simp] theorem exec_scale8 (i frac : Byte) :
    exec (.scale8 i frac) s =
      .next (s.driveScale8 (scale8Product i frac) (scale8 i frac)) := rfl

@[simp] theorem exec_scale8Video (i scale : Byte) :
    exec (.scale8Video i scale) s =
      .next (s.driveVideo (videoProduct i scale) (scale8Video i scale)) := rfl

@[simp] theorem exec_split (hue : Byte) :
    exec (.split hue) s =
      .next (s.driveSplit (sectorField hue) (offsetField hue)) := rfl

@[simp] theorem exec_pack (r g b : Byte) :
    exec (.pack r g b) s =
      .next (s.drivePack (packRgb r g b)) := rfl

@[simp] theorem exec_third (o : Offset) :
    exec (.third o) s =
      .next (s.driveThird (third o)) := rfl

@[simp] theorem exec_twothirds (o : Offset) :
    exec (.twothirds o) s =
      .next (s.driveTwothirds (twothirds o)) := rfl

@[simp] theorem exec_sec0 (o : Offset) (sat val : Byte) :
    exec (.sec0 o sat val) s =
      .next (s.settleFromRaw (hueOf 0 o) sat val (rowSec0 (third o))) := rfl

@[simp] theorem exec_sec1 (o : Offset) (sat val : Byte) :
    exec (.sec1 o sat val) s =
      .next (s.settleFromRaw (hueOf 1 o) sat val (rowSec1 (third o))) := rfl

@[simp] theorem exec_sec2 (o : Offset) (sat val : Byte) :
    exec (.sec2 o sat val) s =
      .next (s.settleFromRaw (hueOf 2 o) sat val (rowSec2 (third o) (twothirds o))) := rfl

@[simp] theorem exec_sec3 (o : Offset) (sat val : Byte) :
    exec (.sec3 o sat val) s =
      .next (s.settleFromRaw (hueOf 3 o) sat val (rowSec3 (third o))) := rfl

@[simp] theorem exec_sec4 (o : Offset) (sat val : Byte) :
    exec (.sec4 o sat val) s =
      .next (s.settleFromRaw (hueOf 4 o) sat val (rowSec4 (twothirds o))) := rfl

@[simp] theorem exec_sec5 (o : Offset) (sat val : Byte) :
    exec (.sec5 o sat val) s =
      .next (s.settleFromRaw (hueOf 5 o) sat val (rowSec5 (third o))) := rfl

@[simp] theorem exec_sec6 (o : Offset) (sat val : Byte) :
    exec (.sec6 o sat val) s =
      .next (s.settleFromRaw (hueOf 6 o) sat val (rowSec6 (third o))) := rfl

@[simp] theorem exec_sec7 (o : Offset) (sat val : Byte) :
    exec (.sec7 o sat val) s =
      .next (s.settleFromRaw (hueOf 7 o) sat val (rowSec7 (third o))) := rfl

@[simp] theorem exec_satFull (hue val : Byte) :
    exec (.satFull hue val) s =
      .next (s.settleFromSat hue 255 val (rawColor hue) (satFull (rawColor hue))) := rfl

@[simp] theorem exec_satZero (hue val : Byte) :
    exec (.satZero hue val) s =
      .next (s.settleFromSat hue 0 val (rawColor hue) satZero) := rfl

@[simp] theorem exec_satPartial (hue sat val : Byte) :
    exec (.satPartial hue sat val) s =
      .next (s.settleFromSat hue sat val (rawColor hue) (satPartial (rawColor hue) sat)) := rfl

@[simp] theorem exec_valFull (hue sat : Byte) :
    exec (.valFull hue sat) s =
      .next (s.settle hue sat 255 (rawColor hue) (desaturate (rawColor hue) sat)
        (valFull (desaturate (rawColor hue) sat))) := rfl

@[simp] theorem exec_valBlack (hue sat : Byte) :
    exec (.valBlack hue sat) s =
      .next (s.settle hue sat 0 (rawColor hue) (desaturate (rawColor hue) sat) valBlack) := rfl

@[simp] theorem exec_valPartial (hue sat val : Byte) :
    exec (.valPartial hue sat val) s =
      .next (s.settle hue sat val (rawColor hue) (desaturate (rawColor hue) sat)
        (valPartial (desaturate (rawColor hue) sat) (valpOf val))) := rfl

/-! ### The rows of a group are the cases of its selection (R74, R90, R100) -/

/-- A request in sector `c` has the row of `c` as its raw color. -/
theorem rawColor_hueOf (c : Sector) (o : Offset) :
    rawColor (hueOf c o) = selectSector c (third o) (twothirds o) := by
  simp [rawColor]

theorem desaturate_full (raw : Rgb) : desaturate raw 255 = satFull raw := rfl

theorem desaturate_zero (raw : Rgb) : desaturate raw 0 = satZero := rfl

theorem desaturate_partial (raw : Rgb) (sat : Byte) (h0 : sat ≠ 0) (h1 : sat ≠ 255) :
    desaturate raw sat = satPartial raw sat := by
  simp only [desaturate, isSatFull, isSatZero, beq_iff_eq]
  rw [if_neg h1, if_neg h0]

theorem valueScale_full (c : Rgb) : valueScale c 255 = valFull c := rfl

theorem valueScale_zero (c : Rgb) : valueScale c 0 = valBlack := rfl

/-- `valp` is zero only for `val = 0` (R103). -/
theorem valpOf_ne_zero (val : Byte) (h : val ≠ 0) : valpOf val ≠ 0 := by
  intro hz
  have := congrArg BitVec.toNat hz
  rw [valpOf, scale8Video_toNat, if_pos ⟨h, h⟩] at this
  simp at this

theorem valueScale_partial (c : Rgb) (val : Byte) (h0 : val ≠ 0) (h1 : val ≠ 255) :
    valueScale c val = valPartial c (valpOf val) := by
  simp only [valueScale, isValFull, isValpZero, beq_iff_eq]
  rw [if_neg h1, if_neg (valpOf_ne_zero val h0)]

/-! ### What a step can do -/

/-- The block is untouched: the ports, the wires and the output are those of `s`. -/
def SameBlock (s t : State) : Prop :=
  t.hueI = s.hueI ∧ t.satI = s.satI ∧ t.valI = s.valI ∧ t.rgbO = s.rgbO ∧ t.signals = s.signals

/-- A well-formed operation either evaluates one request in the block and leaves the bench, or
drives the bench and leaves the block. -/
theorem exec_next_cases (i : Instr) (hwf : i.wellFormed = true) (s t : State)
    (h : exec i s = .next t) :
    (∃ hue sat val, t = s.evaluate hue sat val) ∨ (SameBlock s t ∧ t.target = s.target) := by
  cases i <;> simp only [exec_hsv2rgb, exec_scale8, exec_scale8Video, exec_split, exec_pack,
    exec_third, exec_twothirds, exec_sec0, exec_sec1, exec_sec2, exec_sec3, exec_sec4, exec_sec5,
    exec_sec6, exec_sec7, exec_satFull, exec_satZero, exec_satPartial, exec_valFull, exec_valBlack,
    exec_valPartial, Host.Outcome.next.injEq] at h <;> subst h
  case hsv2rgb hue sat val => exact .inl ⟨hue, sat, val, rfl⟩
  case scale8 => exact .inr ⟨⟨rfl, rfl, rfl, rfl, rfl⟩, rfl⟩
  case scale8Video => exact .inr ⟨⟨rfl, rfl, rfl, rfl, rfl⟩, rfl⟩
  case split => exact .inr ⟨⟨rfl, rfl, rfl, rfl, rfl⟩, rfl⟩
  case pack => exact .inr ⟨⟨rfl, rfl, rfl, rfl, rfl⟩, rfl⟩
  case third => exact .inr ⟨⟨rfl, rfl, rfl, rfl, rfl⟩, rfl⟩
  case twothirds => exact .inr ⟨⟨rfl, rfl, rfl, rfl, rfl⟩, rfl⟩
  case sec0 o sat val =>
    exact .inl ⟨hueOf 0 o, sat, val, by simp [State.evaluate, rawColor_hueOf, selectSector]⟩
  case sec1 o sat val =>
    exact .inl ⟨hueOf 1 o, sat, val, by simp [State.evaluate, rawColor_hueOf, selectSector]⟩
  case sec2 o sat val =>
    exact .inl ⟨hueOf 2 o, sat, val, by simp [State.evaluate, rawColor_hueOf, selectSector]⟩
  case sec3 o sat val =>
    exact .inl ⟨hueOf 3 o, sat, val, by simp [State.evaluate, rawColor_hueOf, selectSector]⟩
  case sec4 o sat val =>
    exact .inl ⟨hueOf 4 o, sat, val, by simp [State.evaluate, rawColor_hueOf, selectSector]⟩
  case sec5 o sat val =>
    exact .inl ⟨hueOf 5 o, sat, val, by simp [State.evaluate, rawColor_hueOf, selectSector]⟩
  case sec6 o sat val =>
    exact .inl ⟨hueOf 6 o, sat, val, by simp [State.evaluate, rawColor_hueOf, selectSector]⟩
  case sec7 o sat val =>
    exact .inl ⟨hueOf 7 o, sat, val, by simp [State.evaluate, rawColor_hueOf, selectSector]⟩
  case satFull hue val => exact .inl ⟨hue, 255, val, rfl⟩
  case satZero hue val => exact .inl ⟨hue, 0, val, rfl⟩
  case satPartial hue sat val =>
    simp only [Instr.wellFormed, isPartial, Bool.and_eq_true, bne_iff_ne] at hwf
    exact .inl ⟨hue, sat, val, by simp [State.evaluate, desaturate_partial _ _ hwf.1 hwf.2]⟩
  case valFull hue sat => exact .inl ⟨hue, sat, 255, rfl⟩
  case valBlack hue sat => exact .inl ⟨hue, sat, 0, rfl⟩
  case valPartial hue sat val =>
    simp only [Instr.wellFormed, isPartial, Bool.and_eq_true, bne_iff_ne] at hwf
    exact .inl ⟨hue, sat, val, by simp [State.evaluate, valueScale_partial _ _ hwf.1 hwf.2]⟩

/-- Putting a word either drives a request on the ports, with the block following, or moves only the
target and the bench's inputs. -/
theorem place_cases (t : Target) (bytes : List Byte) :
    (∃ hue sat val, s.place t bytes = { s.evaluate hue sat val with target := t }) ∨
      (SameBlock s (s.place t bytes) ∧ (s.place t bytes).bench = s.bench) := by
  unfold State.place
  split
  case h_1 a b c => exact .inl ⟨a, b, c, rfl⟩
  case h_2 a b c => exact .inl ⟨a, b, c, rfl⟩
  case h_3 a b c => exact .inl ⟨a, b, c, rfl⟩
  case h_4 a b c => exact .inl ⟨a, b, c, rfl⟩
  all_goals exact .inr ⟨⟨rfl, rfl, rfl, rfl, rfl⟩, rfl⟩

/-- What a step runs is what its target decodes. -/
theorem fetched_eq_decode : s.fetched = decode s.target s.operandBytes := rfl

/-- A step that answers a next state ran an operation that was fetched. -/
theorem step_next_cases (s t : State) (h : step s = .next t) :
    ∃ i, s.fetched = .ok i ∧ exec i s = .next t := by
  unfold step at h
  split at h
  · exact ⟨_, ‹_›, h⟩
  · cases h

end Sys2Proof.Machine
end

