-- ==== Sys2Proof/Laws/PerInstr.lean ====
section
/-!
SUPPORT. The per-instruction family `EncodedWidth`: the encoding of an operation has as many bytes
as the format of its row (spec/30_encoding.md rules R30, R33, R40), and is presented to the row's
target.
-/
namespace Sys2Proof.Laws

/-- How many bytes the operand word of a target has: REQ24 and CH24 three, OP16 two, HUE8 one. -/
def formatBytes : Target → Nat
  | .whole | .sector | .sat | .val | .pack => 3
  | .scale8 | .scale8Video | .third | .twothirds => 2
  | .split => 1

/-- The encoding has the number of bytes of its target's format, and the table has a row with the
operation's mnemonic, that target and that width. -/
def EncodedWidth.Statement (i : Instr) : Prop :=
  (encode i).bytes.length = formatBytes (encode i).target ∧
    opcodeTable.any (fun row => row.mnemonic == i.mnemonic && row.target == (encode i).target &&
      row.width == 8 * (encode i).bytes.length) = true

theorem EncodedWidth.hsv2rgb (hue sat val : Byte) :
    Statement (.hsv2rgb hue sat val) := ⟨rfl, rfl⟩

theorem EncodedWidth.scale8 (i frac : Byte) :
    Statement (.scale8 i frac) := ⟨rfl, rfl⟩

theorem EncodedWidth.scale8Video (i scale : Byte) :
    Statement (.scale8Video i scale) := ⟨rfl, rfl⟩

theorem EncodedWidth.split (hue : Byte) :
    Statement (.split hue) := ⟨rfl, rfl⟩

theorem EncodedWidth.pack (r g b : Byte) :
    Statement (.pack r g b) := ⟨rfl, rfl⟩

theorem EncodedWidth.third (offset : Offset) :
    Statement (.third offset) := ⟨rfl, rfl⟩

theorem EncodedWidth.twothirds (offset : Offset) :
    Statement (.twothirds offset) := ⟨rfl, rfl⟩

theorem EncodedWidth.sec0 (offset : Offset) (sat val : Byte) :
    Statement (.sec0 offset sat val) := ⟨rfl, rfl⟩

theorem EncodedWidth.sec1 (offset : Offset) (sat val : Byte) :
    Statement (.sec1 offset sat val) := ⟨rfl, rfl⟩

theorem EncodedWidth.sec2 (offset : Offset) (sat val : Byte) :
    Statement (.sec2 offset sat val) := ⟨rfl, rfl⟩

theorem EncodedWidth.sec3 (offset : Offset) (sat val : Byte) :
    Statement (.sec3 offset sat val) := ⟨rfl, rfl⟩

theorem EncodedWidth.sec4 (offset : Offset) (sat val : Byte) :
    Statement (.sec4 offset sat val) := ⟨rfl, rfl⟩

theorem EncodedWidth.sec5 (offset : Offset) (sat val : Byte) :
    Statement (.sec5 offset sat val) := ⟨rfl, rfl⟩

theorem EncodedWidth.sec6 (offset : Offset) (sat val : Byte) :
    Statement (.sec6 offset sat val) := ⟨rfl, rfl⟩

theorem EncodedWidth.sec7 (offset : Offset) (sat val : Byte) :
    Statement (.sec7 offset sat val) := ⟨rfl, rfl⟩

theorem EncodedWidth.satFull (hue val : Byte) :
    Statement (.satFull hue val) := ⟨rfl, rfl⟩

theorem EncodedWidth.satZero (hue val : Byte) :
    Statement (.satZero hue val) := ⟨rfl, rfl⟩

theorem EncodedWidth.satPartial (hue sat val : Byte) :
    Statement (.satPartial hue sat val) := ⟨rfl, rfl⟩

theorem EncodedWidth.valFull (hue sat : Byte) :
    Statement (.valFull hue sat) := ⟨rfl, rfl⟩

theorem EncodedWidth.valBlack (hue sat : Byte) :
    Statement (.valBlack hue sat) := ⟨rfl, rfl⟩

theorem EncodedWidth.valPartial (hue sat val : Byte) :
    Statement (.valPartial hue sat val) := ⟨rfl, rfl⟩

end Sys2Proof.Laws
end

