-- ==== Sys2Proof/Tests/Slice0.lean ====
section
/-!
SUPPORT. Small checks of the model against vectors of spec/95_test_vectors.md and the worked
examples of the rules (each test names its source), the words of the encodings written out, the
ill-formed terms that WellFormed refuses, and a witness for every statement that has hypotheses.
-/
namespace Sys2Proof.Tests

open Sys2Proof.Machine Sys2Proof.Safety

/-- The next state, if there is one. -/
def after (x : Host.Outcome State Fault Refusal) : Option State :=
  match x with
  | .next t => some t
  | .fault _ => none
  | .refused _ => none

/-- One operation from reset, and a reading of the state after it. -/
def run {α : Type} (i : Instr) (f : State → α) : Option α := (after (exec i State.reset)).map f

/-! ## WellFormed: an ill-formed term for each check (R37, R38) -/

theorem test_wf_refuses_sat_zero : (Instr.satPartial 0 0 7).wellFormed = false := by decide
theorem test_wf_refuses_sat_full : (Instr.satPartial 0 255 7).wellFormed = false := by decide
theorem test_wf_refuses_val_zero : (Instr.valPartial 0 7 0).wellFormed = false := by decide
theorem test_wf_refuses_val_full : (Instr.valPartial 0 7 255).wellFormed = false := by decide
theorem test_wf_admits_partial_ends :
    (Instr.satPartial 0 1 0).wellFormed = true ∧ (Instr.satPartial 0 254 0).wellFormed = true ∧
      (Instr.valPartial 0 0 1).wellFormed = true ∧
      (Instr.valPartial 0 0 254).wellFormed = true := by decide

/-! ## Decode: every row's word written out from its `encoding` pattern (R30, R33, R36 to R38) -/

theorem test_decode_hsv2rgb :
    decode .whole [0b10110111, 0b01001101, 0b11001000] = .ok (.hsv2rgb 183 77 200) := by decide
theorem test_decode_scale8 :
    decode .scale8 [0b11111000, 0b01010101] = .ok (.scale8 248 85) := by decide
theorem test_decode_scale8Video :
    decode .scale8Video [0b01100100, 0b00000011] = .ok (.scale8Video 100 3) := by decide
theorem test_decode_split :
    decode .split [0b10110111] = .ok (.split 0xB7) := by decide
theorem test_decode_pack :
    decode .pack [0b00010010, 0b00110100, 0b01010110] = .ok (.pack 18 52 86) := by decide
theorem test_decode_third :
    decode .third [0b10111000, 0b01010101] = .ok (.third 23) := by decide
theorem test_decode_twothirds :
    decode .twothirds [0b10111000, 0b10101010] = .ok (.twothirds 23) := by decide
theorem test_decode_sec0 :
    decode .sector [0b00010111, 0b01001101, 0b11001000] = .ok (.sec0 23 77 200) := by decide
theorem test_decode_sec1 :
    decode .sector [0b00110111, 0b01001101, 0b11001000] = .ok (.sec1 23 77 200) := by decide
theorem test_decode_sec2 :
    decode .sector [0b01010111, 0b01001101, 0b11001000] = .ok (.sec2 23 77 200) := by decide
theorem test_decode_sec3 :
    decode .sector [0b01110111, 0b01001101, 0b11001000] = .ok (.sec3 23 77 200) := by decide
theorem test_decode_sec4 :
    decode .sector [0b10010111, 0b01001101, 0b11001000] = .ok (.sec4 23 77 200) := by decide
theorem test_decode_sec5 :
    decode .sector [0b10110111, 0b01001101, 0b11001000] = .ok (.sec5 23 77 200) := by decide
theorem test_decode_sec6 :
    decode .sector [0b11010111, 0b01001101, 0b11001000] = .ok (.sec6 23 77 200) := by decide
theorem test_decode_sec7 :
    decode .sector [0b11110111, 0b01001101, 0b11001000] = .ok (.sec7 23 77 200) := by decide
theorem test_decode_satFull :
    decode .sat [0b10110111, 0b11111111, 0b11001000] = .ok (.satFull 183 200) := by decide
theorem test_decode_satZero :
    decode .sat [0b10110111, 0b00000000, 0b11001000] = .ok (.satZero 183 200) := by decide
theorem test_decode_satPartial :
    decode .sat [0b10110111, 0b01001101, 0b11001000] = .ok (.satPartial 183 77 200) := by decide
theorem test_decode_valFull :
    decode .val [0b10110111, 0b01001101, 0b11111111] = .ok (.valFull 183 77) := by decide
theorem test_decode_valBlack :
    decode .val [0b10110111, 0b01001101, 0b00000000] = .ok (.valBlack 183 77) := by decide
theorem test_decode_valPartial :
    decode .val [0b10110111, 0b01001101, 0b11001000] = .ok (.valPartial 183 77 200) := by decide

/-- A word of another length is rejected by name (R40). -/
theorem test_decode_rejects_two_byte_request :
    decode .whole [1, 2] = .error (.operandCount 2) := by decide
/-- OP[2:0] of the first operand must be zero for THIRD (R42). -/
theorem test_decode_rejects_not_third : decode .third [0b10111001, 0b01010101] = .error .notThird := by
  decide
theorem test_decode_rejects_not_twothirds :
    decode .twothirds [0b10111000, 0b01010101] = .error .notTwothirds := by decide

/-! ## A bare table word (log entry 3) -/

theorem test_bare_sec1 : decodeTableWord 24 0x20FFFF = some (.sec1 0 255 255) := by decide
theorem test_bare_scale8 : decodeTableWord 16 0x6464 = some (.scale8 100 100) := by decide
theorem test_bare_third : decodeTableWord 16 0xB855 = some (.third 23) := by decide
theorem test_bare_twothirds : decodeTableWord 16 0xB8AA = some (.twothirds 23) := by decide
theorem test_bare_split : decodeTableWord 8 0xB7 = some (.split 0xB7) := by decide
theorem test_bare_refuses_other_width : decodeTableWord 32 0 = none := by decide
/-- S2 through the fetch: the block answers whichever row the word is read as. -/
theorem test_fetch_word_sec1 :
    (after (step (State.reset.withFetchWord 24 0x20FFFF))).map State.rgbO = some 0x00AB5500 := by
  decide

/-- R16: the output follows the ports when the word is put, before any step. -/
theorem test_fetch_word_output_follows :
    (State.reset.withFetchWord 24 0xA0FFFF).rgbO = 0x000000FF := by decide
/-- R16: it still does after a step on the bench. -/
theorem test_bench_step_keeps_output :
    (after (step ((State.reset.withFetchWord 24 0xA0FFFF).withFetchWord 16 0x6464))).map
      (fun t => (t.hueI, t.satI, t.valI, t.rgbO)) = some (160, 255, 255, 0x000000FF) := by decide

/-! ## The sub-units on their own (spec/95 sections 2.1 to 2.3, 2.7) -/

theorem test_scale8_248_85 :
    run (.scale8 248 85) (fun t => (t.bench.scale8Product, t.bench.scale8Out)) =
      some (0x5350, 83) := by decide
theorem test_scale8_255_255 :
    run (.scale8 255 255) (fun t => (t.bench.scale8Product, t.bench.scale8Out)) =
      some (0xFF00, 255) := by decide
theorem test_video_255_255 :
    run (.scale8Video 255 255) (fun t => (t.bench.videoProduct, t.bench.videoOut)) =
      some (0xFE01, 255) := by decide
theorem test_video_1_255 :
    run (.scale8Video 1 255) (fun t => (t.bench.videoProduct, t.bench.videoOut)) =
      some (0x00FF, 1) := by decide
theorem test_split_B7 :
    run (.split 0xB7) (fun t => (t.bench.splitSector, t.bench.splitOffset)) = some (5, 23) := by
  decide
theorem test_pack_123456 : run (.pack 18 52 86) (·.bench.packOut) = some 0x00123456 := by decide
theorem test_third_23 : run (.third 23) (·.bench.thirdOut) = some 61 := by decide
theorem test_twothirds_31 : run (.twothirds 31) (·.bench.twothirdsOut) = some 165 := by decide

/-! ## The sector rows, last hue of each sector (spec/95 section 2.3) -/

theorem test_sec0_last :
    run (.sec0 31 255 255) (fun t => (t.signals.raw, t.rgbO)) =
      some (⟨172, 83, 0⟩, 0xAC5300) := by decide
theorem test_sec1_last :
    run (.sec1 31 255 255) (fun t => (t.signals.raw, t.rgbO)) =
      some (⟨171, 168, 0⟩, 0xABA800) := by decide
theorem test_sec2_last :
    run (.sec2 31 255 255) (fun t => (t.signals.raw, t.rgbO)) =
      some (⟨6, 253, 0⟩, 0x06FD00) := by decide
theorem test_sec3_last :
    run (.sec3 31 255 255) (fun t => (t.signals.raw, t.rgbO)) =
      some (⟨0, 172, 83⟩, 0x00AC53) := by decide
theorem test_sec4_last :
    run (.sec4 31 255 255) (fun t => (t.signals.raw, t.rgbO)) =
      some (⟨0, 6, 250⟩, 0x0006FA) := by decide
theorem test_sec5_last :
    run (.sec5 31 255 255) (fun t => (t.signals.raw, t.rgbO)) =
      some (⟨83, 0, 172⟩, 0x5300AC) := by decide
theorem test_sec6_last :
    run (.sec6 31 255 255) (fun t => (t.signals.raw, t.rgbO)) =
      some (⟨168, 0, 88⟩, 0xA80058) := by decide
theorem test_sec7_last :
    run (.sec7 31 255 255) (fun t => (t.signals.raw, t.rgbO)) =
      some (⟨253, 0, 2⟩, 0xFD0002) := by decide

/-! ## The modes (spec/95 sections 2.5, 2.6, 2.8) -/

/-- R91's worked example. -/
theorem test_satFull_32 : run (.satFull 32 255) (·.signals.satColor) = some ⟨171, 85, 0⟩ := by decide
/-- R92's worked example: white before dimming. -/
theorem test_satZero_123 : run (.satZero 123 255) (·.rgbO) = some 0x00FFFFFF := by decide
/-- The general request (183, 77, 200): scaled channels, floor and saturated color. -/
theorem test_satPartial_183 :
    run (.satPartial 183 77 200)
      (fun t => (t.signals.scaled, t.signals.brightnessFloor, t.signals.satColor)) =
      some (⟨18, 0, 59⟩, 124, ⟨142, 124, 183⟩) := by decide
theorem test_valFull_128 : run (.valFull 0 128) (·.signals.out) = some ⟨191, 63, 63⟩ := by decide
theorem test_valBlack_77 : run (.valBlack 77 0) (·.rgbO) = some 0 := by decide
/-- R104's worked example (0, 128, 128). -/
theorem test_valPartial_128 :
    run (.valPartial 0 128 128) (fun t => (t.signals.valp, t.rgbO)) = some (65, 0x00311010) := by
  decide
/-- Raw colors no hue gives (spec/95 section 2.5, last rows). -/
theorem test_satPartial_unreachable :
    satPartial ⟨255, 255, 255⟩ 128 = ⟨191, 191, 191⟩ ∧ satPartial ⟨0, 0, 0⟩ 128 = ⟨63, 63, 63⟩ := by
  decide
/-- The thresholds of VAL_PARTIAL (spec/95 section 2.6). -/
theorem test_valPartial_thresholds :
    valPartial ⟨85, 86, 0⟩ (valpOf 16) = ⟨0, 1, 0⟩ ∧
      valPartial ⟨129, 128, 1⟩ (valpOf 254) = ⟨127, 127, 0⟩ := by decide

/-! ## The whole conversion (spec/95 sections 2.8, 2.9; R112) -/

theorem test_hsv2rgb_183_77_200 : run (.hsv2rgb 183 77 200) (·.rgbO) = some 0x00574C70 := by decide
/-- Black with `val` not 0 (C5). -/
theorem test_hsv2rgb_132_171_1 : run (.hsv2rgb 132 171 1) (·.rgbO) = some 0 := by decide
/-- SEC2 and SEC4 read `twothirds`. -/
theorem test_convert_twothirds_rows :
    convert 80 200 100 = 0x000C1C01 ∧ convert 144 64 255 = 0x008FA4BA := by decide
/-- The document's fourth vector, as corrected (C1). -/
theorem test_convert_160 : convert 160 255 255 = 0x000000FF := by decide
theorem test_convert_general :
    convert 17 34 51 = 0x000A0908 ∧ convert 100 150 200 = 0x001A731D ∧
      convert 250 5 250 = 0x00F0EBEB ∧ convert 254 254 254 = 0x00F70003 := by decide

/-! ## The machine -/

theorem test_step_at_reset : after (step State.reset) = some State.reset := by decide
/-- Program 4 of spec/95: the same request three times among others. -/
theorem test_serve_has_no_memory :
    serve State.reset [⟨183, 77, 200⟩, ⟨0, 0, 0⟩, ⟨183, 77, 200⟩] =
      [0x00574C70, 0, 0x00574C70] := by decide
/-- Program 6, step 2, under each policy. -/
theorem test_host_truncate :
    (callUnder .truncate State.reset 288 255 255).map Prod.fst = some (.response 0x00AB5500) := by
  decide
theorem test_host_reject :
    callUnder .reject State.reset 288 255 255 = some (.rangeError, State.reset) := by decide

/-! ## Witnesses: each statement with hypotheses has operands and a state that meet them, at the
ends of each range -/

theorem test_witness_ScaleEightMultiplies : (248 : Byte) = 248 ∧ (85 : Byte) = 85 := by decide
theorem test_witness_ScaleEightProperties :
    (0 : Byte).toNat ≤ 254 ∧ (254 : Byte).toNat ≤ 254 ∧ (255 : Byte).toNat = 255 ∧
      (255 : Byte).toNat ≤ (255 : Byte).toNat := by decide
theorem test_witness_sector_offsets :
    (0 : Offset).toNat = 0 ∧ (16 : Offset).toNat = 16 ∧ (31 : Offset).toNat = 31 ∧
      (1 : Offset).toNat = 1 ∧ (3 : Offset).toNat = 3 ∧ (23 : Offset).toNat = 23 := by decide
theorem test_witness_HueStepsAreSmall :
    (0 : Byte).toNat % 32 ≠ 31 ∧ (254 : Byte).toNat % 32 ≠ 31 := by decide
theorem test_witness_partial_range :
    (1 ≤ (1 : Byte).toNat ∧ (1 : Byte).toNat ≤ 254) ∧
      (1 ≤ (254 : Byte).toNat ∧ (254 : Byte).toNat ≤ 254) := by decide
theorem test_witness_PartialStageCorners :
    (1 ≤ (1 : Byte).toNat ∧ (1 : Byte).toNat ≤ 15) ∧
      (1 ≤ (15 : Byte).toNat ∧ (15 : Byte).toNat ≤ 15) := by decide
theorem test_witness_SatZero_vals : (255 : Byte) = 255 ∧ (0 : Byte) ≠ 255 ∧ (254 : Byte) ≠ 255 := by
  decide
theorem test_witness_ValpIsTheBrightnessCurve :
    (0 : Byte).toNat ≤ (0 : Byte).toNat ∧ (254 : Byte).toNat ≤ (255 : Byte).toNat := by decide
theorem test_witness_DimmingIsMonotone : (0 : Byte).toNat ≤ (255 : Byte).toNat := by decide
theorem test_witness_RequestRowsAgree :
    (1 : Byte) ≠ 0 ∧ (1 : Byte) ≠ 255 ∧ (254 : Byte) ≠ 0 ∧ (254 : Byte) ≠ 255 := by decide
theorem test_witness_StepRunsTheDecodedOperation :
    decode State.reset.target State.reset.operandBytes = .ok (.hsv2rgb 0 0 0) ∧
      State.reset.target = .whole := by decide
theorem test_witness_RequestStepsAlwaysAnswer : IsRequestTarget State.reset.target := .inl rfl
theorem test_witness_request_groups :
    IsRequestTarget .whole ∧ IsRequestTarget .sector ∧ IsRequestTarget .sat ∧ IsRequestTarget .val :=
  ⟨.inl rfl, .inr (.inl rfl), .inr (.inr (.inl rfl)), .inr (.inr (.inr rfl))⟩
/-- Both refusals are reached: a target THIRD or TWOTHIRDS with zeros on the bench's inputs. -/
theorem test_witness_OnlyForeignUseWordsAreRefused :
    (after (step (State.mk 0 0 0 0 (signalsOf 0 0 0) .third 0 0 0 Bench.zero))).isNone = true ∧
      (after (step (State.mk 0 0 0 0 (signalsOf 0 0 0) .twothirds 0 0 0 Bench.zero))).isNone = true ∧
      (after (step (State.mk 0 0 0 0 (signalsOf 0 0 0) .third 0xB8 0x55 0 Bench.zero))).isSome = true := by
  decide
theorem test_witness_EveryRowRunsThroughStep :
    (Instr.satPartial 183 77 200).wellFormed = true ∧ (Instr.third 23).wellFormed = true := by decide
theorem test_witness_FetchWordRunsNext : decodeTableWord 24 0xB74DC8 = some (.sec5 23 77 200) := by
  decide
theorem test_witness_EvaluationIsIdempotent :
    after (exec (.hsv2rgb 0 0 0) State.reset) = some State.reset ∧
      after (step State.reset) = some State.reset := by decide
/-- Two states with the same request and nothing else in common but the bench. -/
theorem test_witness_NoHiddenState :
    IsRequestTarget (State.mk 1 2 3 9 (signalsOf 7 8 9) .val 4 5 6 Bench.zero).target ∧
      IsRequestTarget (State.mk 1 2 3 0 (signalsOf 0 0 0) .sector 0 0 0 Bench.zero).target :=
  ⟨.inr (.inr (.inr rfl)), .inr (.inl rfl)⟩
theorem test_witness_OutputAlwaysFollowsTheInputs :
    after (step State.reset) = some State.reset ∧ State.reset.signals = signalsOf 0 0 0 ∧
      State.reset.rgbO = convert 0 0 0 := by decide
/-- Both kinds of target that FetchWordRunsNext and EveryRowRunsThroughStep tell apart. -/
theorem test_witness_OnlyTheInputs :
    (State.reset.withFetchWord 24 0xA0FFFF).target = .sector ∧
      (State.reset.withFetchWord 16 0x6464).target = .scale8 := by decide
theorem test_witness_SignalsExact :
    SignalsExact (State.mk 0 0 0 0 (signalsOf 0 0 0) .split 0xB7 0 0 Bench.zero) ∧
      SignalsExact (State.mk 255 254 255 0 (signalsOf 255 254 255) .split 0xB7 0 0 Bench.zero) := by
  decide
/-- The hypotheses of SignalRangesAreKept hold of a settled block (sector 0) whose bench is next. -/
theorem test_witness_SignalRangesAreKept :
    SignalsInRange (State.mk 0 0 0 0 (signalsOf 0 0 0) .split 0xB7 0 0 Bench.zero) ∧
      (after (step (State.mk 0 0 0 0 (signalsOf 0 0 0) .split 0xB7 0 0 Bench.zero))).isSome = true := by decide
theorem test_witness_EncodeOfDecode : decode .third [0xB8, 0x55] = .ok (.third 23) := by decide
theorem test_witness_HostPoliciesAreTheTwo :
    ((0 : Int) ≤ 0 ∧ (255 : Int) ≤ 255) ∧ (255 : Int) < 256 ∧ (-1 : Int) < 0 := by decide

end Sys2Proof.Tests
end

/-!
# The ports, the wires and the response (spec/10_state.md)

What a step does to the block, and what an evaluation leaves on the wires: first each stage of the
conversion over the natural numbers, then the step as a whole, then the invariants of R13, R16, R18
and R83.
-/

namespace Sys2Proof.Machine

open Sys2Proof.Safety

/-! ### The raw color over the natural numbers (R74 to R83) -/

section RawColor

variable (o : Offset)

theorem nats_rowSec0 :
    nats (rowSec0 (third o)) = (255 - thirdNat o.toNat, thirdNat o.toNat, 0) := by
  have := o.isLt
  simp [nats, rowSec0, k255, thirdNat]
  omega

theorem nats_rowSec1 :
    nats (rowSec1 (third o)) = (171, 85 + thirdNat o.toNat, 0) := by
  have := o.isLt
  simp [nats, rowSec1, k171, k85, thirdNat]
  omega

theorem nats_rowSec2 :
    nats (rowSec2 (third o) (twothirds o)) =
      (171 - twothirdsNat o.toNat, 170 + thirdNat o.toNat, 0) := by
  have := o.isLt
  simp [nats, rowSec2, k171, k170, thirdNat, twothirdsNat]
  omega

theorem nats_rowSec3 :
    nats (rowSec3 (third o)) = (0, 255 - thirdNat o.toNat, thirdNat o.toNat) := by
  have := o.isLt
  simp [nats, rowSec3, k255, thirdNat]
  omega

theorem nats_rowSec4 :
    nats (rowSec4 (twothirds o)) =
      (0, 171 - twothirdsNat o.toNat, 85 + twothirdsNat o.toNat) := by
  have := o.isLt
  simp [nats, rowSec4, k171, k85, twothirdsNat]
  omega

theorem nats_rowSec5 :
    nats (rowSec5 (third o)) = (thirdNat o.toNat, 0, 255 - thirdNat o.toNat) := by
  have := o.isLt
  simp [nats, rowSec5, k255, thirdNat]
  omega

theorem nats_rowSec6 :
    nats (rowSec6 (third o)) = (85 + thirdNat o.toNat, 0, 171 - thirdNat o.toNat) := by
  have := o.isLt
  simp [nats, rowSec6, k171, k85, thirdNat]
  omega

theorem nats_rowSec7 :
    nats (rowSec7 (third o)) = (170 + thirdNat o.toNat, 0, 85 - thirdNat o.toNat) := by
  have := o.isLt
  simp [nats, rowSec7, k170, k85, thirdNat]
  omega

end RawColor

/-- Every sector is one of the eight of R74. -/
theorem sector_cases (c : Sector) :
    c = 0 ∨ c = 1 ∨ c = 2 ∨ c = 3 ∨ c = 4 ∨ c = 5 ∨ c = 6 ∨ c = 7 := by
  bv_omega

/-- The eight-way selection is the table of R74. -/
theorem nats_rawColor_hueOf (c : Sector) (o : Offset) :
    nats (rawColor (hueOf c o)) = rawNat (32 * c.toNat + o.toNat) := by
  have ho := o.isLt
  have hoff : (32 * c.toNat + o.toNat) % 32 = o.toNat := by omega
  have hsec : (32 * c.toNat + o.toNat) / 32 = c.toNat := by omega
  simp only [rawColor_hueOf, rawNat, hoff, hsec]
  rcases sector_cases c with rfl | rfl | rfl | rfl | rfl | rfl | rfl | rfl
  · exact nats_rowSec0 o
  · exact nats_rowSec1 o
  · exact nats_rowSec2 o
  · exact nats_rowSec3 o
  · exact nats_rowSec4 o
  · exact nats_rowSec5 o
  · exact nats_rowSec6 o
  · exact nats_rowSec7 o

/-- Steps 1 and 2 over the natural numbers (R74). -/
theorem nats_rawColor (hue : Byte) : nats (rawColor hue) = rawNat hue.toNat := by
  have h := nats_rawColor_hueOf (sectorField hue) (offsetField hue)
  rwa [hueOf_fields, ← hueOf_toNat, hueOf_fields] at h

/-- R83: in each sector the channels are linear in the interpolants, whose ranges bound them. -/
theorem rawInRange_rawColor (hue : Byte) : RawInRange (hue.toNat / 32) (rawColor hue) := by
  have hn := nats_rawColor hue
  have hlt := hue.isLt
  simp only [nats, Prod.ext_iff] at hn
  obtain ⟨hr, hg, hb⟩ := hn
  simp only [RawInRange, hr, hg, hb]
  have hsec : hue.toNat / 32 < 8 := by omega
  interval_cases hc : hue.toNat / 32 <;>
    simp only [rawNat, rawLow, rawHigh, hc, thirdNat, twothirdsNat] <;> omega

/-! ### Steps 3 and 4 over the natural numbers (R90 to R105) -/

/-! #### The predicates (R13) -/

@[simp] theorem isSatFull_eq (sat : Byte) : isSatFull sat = decide (sat.toNat = 255) :=
  decide_eq_decide.mpr (by bv_omega)

@[simp] theorem isSatZero_eq (sat : Byte) : isSatZero sat = decide (sat.toNat = 0) :=
  decide_eq_decide.mpr (by bv_omega)

@[simp] theorem isValFull_eq (val : Byte) : isValFull val = decide (val.toNat = 255) :=
  decide_eq_decide.mpr (by bv_omega)

@[simp] theorem isValpZero_eq (valp : Byte) : isValpZero valp = decide (valp.toNat = 0) :=
  decide_eq_decide.mpr (by bv_omega)

@[simp] theorem chanNonzero_eq (c : Byte) : chanNonzero c = decide (c.toNat ≠ 0) := by
  rw [chanNonzero, bne, Bool.eq_iff_iff]
  simp [← BitVec.toNat_inj]

theorem channelFlagsExact_channelFlags (c : Rgb) :
    ChannelFlagsExact (channelFlags c) (nats c) :=
  ⟨chanNonzero_eq c.r, chanNonzero_eq c.g, chanNonzero_eq c.b⟩

/-! #### The multipliers -/

theorem scale8_toNat_eq_scaleNat (i frac : Byte) :
    (scale8 i frac).toNat = scaleNat i.toNat frac.toNat := scale8_toNat i frac

theorem brightnessFloor_toNat_eq_scaleNat (sat : Byte) :
    (brightnessFloor sat).toNat = scaleNat (255 - sat.toNat) (255 - sat.toNat) :=
  brightnessFloor_toNat sat

theorem valpOf_toNat (val : Byte) : (valpOf val).toNat = videoNat val.toNat val.toNat := by
  simp [valpOf, videoNat, ← BitVec.toNat_inj]

/-- No product of SCALE8 passes 65280 (R51). -/
theorem scale8Product_le (i frac : Byte) : (scale8Product i frac).toNat ≤ 65280 := by
  rw [scale8Product_toNat]
  exact mul_le_65280 (by omega) (by omega)

/-! #### Step 3 -/

theorem nats_scaleColor (c : Rgb) (frac : Byte) :
    nats (scaleColor c frac) = eachNat (fun x => scaleNat x frac.toNat) (nats c) := by
  simp [nats, scaleColor, eachNat, scaleNat]

/-- R94: a scaled channel and the floor add up below 256, the two products together being at most
65280. -/
theorem scaleNat_add_floor_lt {x sat : Nat} (hx : x ≤ 255) (h0 : sat ≠ 0) (hs : sat ≤ 255) :
    scaleNat x sat + scaleNat (255 - sat) (255 - sat) < 256 := by
  obtain ⟨d, hd, rfl⟩ : ∃ d, d ≤ 254 ∧ sat = 255 - d := ⟨255 - sat, by omega, by omega⟩
  have hscaled : x * (1 + (255 - d)) ≤ 255 * (1 + (255 - d)) := Nat.mul_le_mul_right _ hx
  have hfloor : d * (1 + d) ≤ d * 255 := Nat.mul_le_mul_left d (by omega)
  have hdd : 255 - (255 - d) = d := by omega
  simp only [scaleNat, hdd]
  omega

theorem nats_satPartial (c : Rgb) (sat : Byte) (h0 : sat ≠ 0) :
    nats (satPartial c sat) =
      eachNat (fun x => scaleNat x sat.toNat + scaleNat (255 - sat.toNat) (255 - sat.toNat))
        (nats c) := by
  have hs : sat.toNat ≠ 0 := by bv_omega
  have hsum (x : Byte) : (scale8 x sat + brightnessFloor sat).toNat =
      scaleNat x.toNat sat.toNat + scaleNat (255 - sat.toNat) (255 - sat.toNat) := by
    rw [BitVec.toNat_add, scale8_toNat_eq_scaleNat, brightnessFloor_toNat_eq_scaleNat]
    exact Nat.mod_eq_of_lt (scaleNat_add_floor_lt (by omega) hs (by omega))
  simp [nats, satPartial, addFloor, scaleColor, eachNat, hsum]

/-- Step 3 over the natural numbers (R90 to R93). -/
theorem nats_desaturate (c : Rgb) (sat : Byte) :
    nats (desaturate c sat) = desaturateNat sat.toNat (nats c) := by
  by_cases hfull : sat = 255
  · subst hfull
    rfl
  by_cases hzero : sat = 0
  · subst hzero
    rfl
  have hf : sat.toNat ≠ 255 := by bv_omega
  have hz : sat.toNat ≠ 0 := by bv_omega
  rw [desaturate_partial c sat hzero hfull, nats_satPartial c sat hzero, desaturateNat, if_neg hf,
    if_neg hz]

/-! #### Step 4 -/

/-- Step 4 over the natural numbers (R100 to R104). -/
theorem nats_valueScale (c : Rgb) (val : Byte) :
    nats (valueScale c val) = dimNat val.toNat (nats c) := by
  simp only [valueScale, dimNat, isValFull_eq, isValpZero_eq, valpOf_toNat, decide_eq_true_eq]
  split_ifs
  · rfl
  · rfl
  · rw [valPartial, nats_scaleColor, valpOf_toNat]

/-! #### Both stages as one formula (R95, R105, R114) -/

/-- Every channel is a byte. -/
def ChannelsAreBytes (c : Nat × Nat × Nat) : Prop := c.1 ≤ 255 ∧ c.2.1 ≤ 255 ∧ c.2.2 ≤ 255

theorem channelsAreBytes_nats (c : Rgb) : ChannelsAreBytes (nats c) := by
  simp only [ChannelsAreBytes, nats]
  omega

theorem eachNat_congr {f g : Nat → Nat} {c : Nat × Nat × Nat} (hc : ChannelsAreBytes c)
    (h : ∀ x ≤ 255, f x = g x) : eachNat f c = eachNat g c := by
  obtain ⟨hr, hg, hb⟩ := hc
  simp only [eachNat, h _ hr, h _ hg, h _ hb]

theorem eachNat_eachNat (f g : Nat → Nat) (c : Nat × Nat × Nat) :
    eachNat f (eachNat g c) = eachNat (fun x => f (g x)) c := rfl

/-- R95: the three cases of Step 3 are one formula. -/
theorem desaturateNat_eq_formula {c : Nat × Nat × Nat} (hc : ChannelsAreBytes c) (sat : Nat) :
    desaturateNat sat c =
      eachNat (fun x => scaleNat x sat + scaleNat (255 - sat) (255 - sat)) c := by
  unfold desaturateNat
  split_ifs with hfull hzero
  · subst hfull
    exact (eachNat_congr (g := id) hc fun x _ => by simp [scaleNat]).symm
  · subst hzero
    exact (eachNat_congr (g := fun _ => 255) hc fun x hx => by simp [scaleNat]; omega).symm
  · rfl

/-- R105: the three cases of Step 4 are one formula. -/
theorem dimNat_eq_formula {c : Nat × Nat × Nat} (hc : ChannelsAreBytes c) (val : Nat) :
    dimNat val c = eachNat (fun x => scaleNat x (videoNat val val)) c := by
  unfold dimNat
  split_ifs with hfull hzero
  · subst hfull
    exact (eachNat_congr (g := id) hc fun x _ => by simp [scaleNat, videoNat]).symm
  · exact (eachNat_congr (g := fun _ => 0) hc fun x hx => by simp [hzero, scaleNat]; omega).symm
  · rfl

theorem packColor_toNat (c : Rgb) : (packColor c).toNat = packNat (nats c) :=
  packRgb_toNat c.r c.g c.b

/-- HSV2RGB step by step over the natural numbers (R112). -/
theorem convert_toNat (hue sat val : Byte) :
    (convert hue sat val).toNat = stepsNat hue.toNat sat.toNat val.toNat := by
  rw [convert, packColor_toNat, nats_valueScale, nats_desaturate, nats_rawColor, stepsNat]

/-- R114: the five steps are one formula with no case on `sat` or `val`. -/
theorem stepsNat_eq_formulaNat (hue sat val : Byte) :
    stepsNat hue.toNat sat.toNat val.toNat = formulaNat hue.toNat sat.toNat val.toNat := by
  have hraw : ChannelsAreBytes (rawNat hue.toNat) :=
    nats_rawColor hue ▸ channelsAreBytes_nats (rawColor hue)
  have hsat : ChannelsAreBytes (desaturateNat sat.toNat (rawNat hue.toNat)) := by
    rw [← nats_rawColor, ← nats_desaturate]
    exact channelsAreBytes_nats _
  rw [stepsNat, dimNat_eq_formula hsat, desaturateNat_eq_formula hraw, eachNat_eachNat, formulaNat]

/-! ### What a step does to the block (R16, R39) -/

/-- An evaluation leaves the output what the request makes it. -/
theorem State.evaluate_rgbO (s : State) (hue sat val : Byte) :
    (s.evaluate hue sat val).rgbO = convert hue sat val := rfl

/-- An evaluation leaves every wire what the request makes it. -/
theorem State.evaluate_signals (s : State) (hue sat val : Byte) :
    (s.evaluate hue sat val).signals = signalsOf hue sat val := rfl

/-- An evaluation moves the ports, the wires and the output alone. -/
theorem onlyTheBlock_evaluate (s : State) (hue sat val : Byte) :
    OnlyTheBlock s (s.evaluate hue sat val) hue sat val := rfl

/-- The row of the sector group that a request selects evaluates the request (R36). -/
theorem exec_decodeSector (hue sat val : Byte) (s : State) :
    exec (decodeSector hue sat val) s = .next (s.evaluate hue sat val) := by
  obtain ⟨c, o, rfl⟩ : ∃ c o, hue = hueOf c o := ⟨_, _, (hueOf_fields hue).symm⟩
  simp only [decodeSector, sectorField_hueOf, offsetField_hueOf, State.evaluate, rawColor_hueOf]
  rcases sector_cases c with rfl | rfl | rfl | rfl | rfl | rfl | rfl | rfl <;> rfl

/-- The row of the saturation group that a request selects evaluates the request (R37). -/
theorem exec_decodeSat (hue sat val : Byte) (s : State) :
    exec (decodeSat hue sat val) s = .next (s.evaluate hue sat val) := by
  unfold decodeSat
  split_ifs with hfull hzero
  · subst hfull
    rfl
  · subst hzero
    rfl
  · simp [desaturate_partial _ _ hzero hfull]

/-- The row of the value group that a request selects evaluates the request (R38). -/
theorem exec_decodeVal (hue sat val : Byte) (s : State) :
    exec (decodeVal hue sat val) s = .next (s.evaluate hue sat val) := by
  unfold decodeVal
  split_ifs with hfull hzero
  · subst hfull
    rfl
  · subst hzero
    rfl
  · simp [valueScale_partial _ _ hzero hfull]

/-- R39: with any request on the ports, a step evaluates it. -/
theorem step_of_requestTarget (s : State) (h : IsRequestTarget s.target) :
    step s = .next (s.evaluate s.hueI s.satI s.valI) := by
  rcases h with h | h | h | h <;>
    simp only [step, State.fetched, State.operandBytes, h, decode]
  case inr.inl => exact exec_decodeSector _ _ _ s
  case inr.inr.inl => exact exec_decodeSat _ _ _ s
  case inr.inr.inr => exact exec_decodeVal _ _ _ s
  case inl => rfl

/-! ### What the decoder answers is well-formed (R37, R38) -/

theorem isPartial_of_ne {x : Byte} (hzero : x ≠ 0) (hfull : x ≠ 255) : isPartial x = true := by
  rw [isPartial, Bool.and_eq_true, bne_iff_ne, bne_iff_ne]
  exact ⟨hzero, hfull⟩

theorem wellFormed_decodeSector (hue sat val : Byte) :
    (decodeSector hue sat val).wellFormed = true := by
  simp only [decodeSector]
  split_ifs <;> rfl

theorem wellFormed_decodeSat (hue sat val : Byte) :
    (decodeSat hue sat val).wellFormed = true := by
  unfold decodeSat
  split_ifs with hfull hzero
  · rfl
  · rfl
  · exact isPartial_of_ne hzero hfull

theorem wellFormed_decodeVal (hue sat val : Byte) :
    (decodeVal hue sat val).wellFormed = true := by
  unfold decodeVal
  split_ifs with hfull hzero
  · rfl
  · rfl
  · exact isPartial_of_ne hzero hfull

theorem decodeThird_ok {a b : Byte} {i : Instr} (h : decodeThird a b = .ok i) :
    i = .third (a.extractLsb' 3 5) := by
  unfold decodeThird at h
  split_ifs at h
  exact (Except.ok.inj h).symm

theorem decodeTwothirds_ok {a b : Byte} {i : Instr} (h : decodeTwothirds a b = .ok i) :
    i = .twothirds (a.extractLsb' 3 5) := by
  unfold decodeTwothirds at h
  split_ifs at h
  exact (Except.ok.inj h).symm

/-- The decoder never answers an operation that the earlier rows of its group take. -/
theorem wellFormed_of_decode {t : Target} {bytes : List Byte} {i : Instr}
    (h : decode t bytes = .ok i) : i.wellFormed = true := by
  unfold decode at h
  split at h
  case h_2 => exact Except.ok.inj h ▸ wellFormed_decodeSector _ _ _
  case h_3 => exact Except.ok.inj h ▸ wellFormed_decodeSat _ _ _
  case h_4 => exact Except.ok.inj h ▸ wellFormed_decodeVal _ _ _
  case h_9 => exact decodeThird_ok h ▸ rfl
  case h_10 => exact decodeTwothirds_ok h ▸ rfl
  case h_11 => cases h
  all_goals exact Except.ok.inj h ▸ rfl

/-! ### Invariants of the block -/

/-- A step either evaluates some request in the block or leaves the block as it is. -/
theorem step_evaluates_or_keeps_block {s t : State} (h : step s = .next t) :
    (∃ hue sat val, t = s.evaluate hue sat val) ∨ SameBlock s t := by
  obtain ⟨i, hi, hexec⟩ := step_next_cases s t h
  exact (exec_next_cases i (wellFormed_of_decode hi) s t hexec).imp_right And.left

/-- A property of the block that every evaluation establishes is kept by every step. -/
theorem step_keeps_of_evaluate {P : State → Prop}
    (hblock : ∀ s t, SameBlock s t → P s → P t)
    (heval : ∀ s hue sat val, P (State.evaluate s hue sat val))
    {s t : State} (hs : P s) (h : step s = .next t) : P t := by
  rcases step_evaluates_or_keeps_block h with ⟨hue, sat, val, rfl⟩ | hsame
  · exact heval s hue sat val
  · exact hblock s t hsame hs

/-! #### The output follows the ports (R16) -/

theorem settled_of_sameBlock (s t : State) (h : SameBlock s t) (hs : Settled s) : Settled t := by
  obtain ⟨hhue, hsat, hval, hrgb, hsig⟩ := h
  rwa [Settled, hhue, hsat, hval, hrgb, hsig]

theorem settled_evaluate (s : State) (hue sat val : Byte) : Settled (s.evaluate hue sat val) :=
  ⟨rfl, rfl⟩

theorem settled_present (s : State) (hue sat val : Byte) : Settled (s.present hue sat val) :=
  ⟨rfl, rfl⟩

theorem settled_place (s : State) (t : Target) (bytes : List Byte) (hs : Settled s) :
    Settled (s.place t bytes) := by
  rcases place_cases s t bytes with ⟨hue, sat, val, heq⟩ | ⟨hsame, -⟩
  · rw [heq]
    exact settled_evaluate s hue sat val
  · exact settled_of_sameBlock _ _ hsame hs

theorem settled_withFetchWord (s : State) (nbits w : Nat) (hs : Settled s) :
    Settled (s.withFetchWord nbits w) := by
  unfold State.withFetchWord State.placeWord
  split
  · exact settled_place s _ _ hs
  · exact hs

/-! #### The ranges of the wires (R18, R83) -/

theorem signalsInRange_of_sameBlock (s t : State) (h : SameBlock s t) (hs : SignalsInRange s) :
    SignalsInRange t := by
  obtain ⟨-, -, -, hrgb, hsig⟩ := h
  rwa [SignalsInRange, hrgb, hsig]

/-- R34, R93: where SAT_PARTIAL applies, `desat` is 1 to 254 and the floor at most 253. -/
theorem desat_range_of_partial {sat : Byte} (hfull : sat.toNat ≠ 255) (hzero : sat.toNat ≠ 0) :
    1 ≤ (desat sat).toNat ∧ (desat sat).toNat ≤ 254 ∧ (brightnessFloor sat).toNat ≤ 253 := by
  have hd : 255 - sat.toNat ≤ 254 := by omega
  have hfloor : (255 - sat.toNat) * (1 + (255 - sat.toNat)) ≤ 254 * 255 :=
    Nat.mul_le_mul hd (by omega)
  rw [desat_toNat, brightnessFloor_toNat]
  omega

/-- R102: below full value `valp` is at most 253. -/
theorem valpOf_le_of_not_full {val : Byte} (h : val.toNat ≠ 255) : (valpOf val).toNat ≤ 253 := by
  have hsq : val.toNat * val.toNat ≤ 254 * 254 := Nat.mul_le_mul (by omega) (by omega)
  rw [valpOf_toNat, videoNat]
  split_ifs <;> omega

theorem productsInRange_productsOf (hue sat val : Byte) (raw satC : Rgb) :
    ProductsInRange (productsOf hue sat val raw satC) := by
  have hv := videoProduct_le val val
  refine ⟨?third, ?twothirds, ?desatR, ?desatG, ?desatB, ?floor, ?valp, ?dimR, ?dimG, ?dimB⟩
  case valp =>
    rw [productsOf, videoProduct_toNat]
    omega
  all_goals exact scale8Product_le _ _

theorem packColor_le (c : Rgb) : (packColor c).toNat ≤ 0x00FFFFFF := by
  rw [packColor, packRgb_toNat]
  omega

/-- Every wire of an evaluation is in its range. -/
theorem signalsInRange_evaluate (s : State) (hue sat val : Byte) :
    SignalsInRange (s.evaluate hue sat val) := by
  refine ⟨offset8_toNat _, third_le _, twothirds_le _, ?raw, ?desat, ?valp, ?valpFull,
    productsInRange_productsOf _ _ _ _ _, packColor_le _⟩
  case raw => simpa using rawInRange_rawColor hue
  case desat =>
    intro hfull hzero
    exact desat_range_of_partial (by simpa using hfull) (by simpa using hzero)
  case valp =>
    intro hfull
    exact valpOf_le_of_not_full (by simpa using hfull)
  case valpFull =>
    intro hfull
    have hv : val.toNat = 255 := by simpa using hfull
    simp [valpOf_toNat, videoNat, hv]

/-! #### The predicates and the products (R13, R54, R63) -/

theorem signalsExact_of_sameBlock (s t : State) (h : SameBlock s t) (hs : SignalsExact s) :
    SignalsExact t := by
  obtain ⟨hhue, hsat, hval, -, hsig⟩ := h
  rwa [SignalsExact, hhue, hsat, hval, hsig]

/-- The predicates of a request are R13's, over its colors as natural numbers. -/
theorem predicatesExact_signalsOf (hue sat val : Byte) :
    PredicatesExact (signalsOf hue sat val).predicates hue.toNat sat.toNat val.toNat := by
  rw [PredicatesExact, ← nats_rawColor, ← nats_desaturate, ← valpOf_toNat]
  exact ⟨isSatFull_eq sat, isSatZero_eq sat, isValFull_eq val, isValpZero_eq (valpOf val),
    channelFlagsExact_channelFlags _, channelFlagsExact_channelFlags _⟩

/-- The products of a request are exact, over its colors as natural numbers. -/
theorem productsExact_signalsOf (hue sat val : Byte) :
    ProductsExact (signalsOf hue sat val).products hue.toNat sat.toNat val.toNat := by
  rw [ProductsExact, ← nats_rawColor, ← nats_desaturate, ← valpOf_toNat]
  have hfloor : 1 + (255 - sat.toNat) = 256 - sat.toNat := by omega
  simp [signalsOf_eq, productsOf, nats, fracThird, fracTwothirds, hfloor]

theorem signalsExact_evaluate (s : State) (hue sat val : Byte) :
    SignalsExact (s.evaluate hue sat val) :=
  ⟨predicatesExact_signalsOf hue sat val, productsExact_signalsOf hue sat val⟩

/-! ### The obligations -/

/-- Settles O52: a step that reads a request settles the block whatever was there before; any other
step, and any word put, settles the block or leaves it. -/
theorem outputAlwaysFollowsTheInputs : Obligations.OutputAlwaysFollowsTheInputs := by
  refine ⟨fun s t h hs => ?step, settled_present, settled_place, settled_withFetchWord⟩
  case step =>
    rcases hs with hsettled | hrequest
    · exact step_keeps_of_evaluate settled_of_sameBlock settled_evaluate hsettled h
    · rw [step_of_requestTarget s hrequest] at h
      exact Host.Outcome.next.inj h ▸ settled_evaluate s _ _ _

/-- Settles O53: both are properties of the block that every evaluation establishes. -/
theorem signalRangesAreKept : Obligations.SignalRangesAreKept :=
  ⟨fun _ _ => step_keeps_of_evaluate signalsInRange_of_sameBlock signalsInRange_evaluate,
    fun _ _ => step_keeps_of_evaluate signalsExact_of_sameBlock signalsExact_evaluate,
    fun hue sat val s => ⟨s.evaluate hue sat val, exec_hsv2rgb s hue sat val,
      onlyTheBlock_evaluate s hue sat val, signalsInRange_evaluate s hue sat val,
      signalsExact_evaluate s hue sat val⟩⟩

/-- Settles O46: a step on a request target evaluates the request on the ports. -/
theorem requestStepsAlwaysAnswer : Obligations.RequestStepsAlwaysAnswer := by
  intro s h
  refine ⟨_, step_of_requestTarget s h, onlyTheBlock_evaluate s _ _ _, ?_⟩
  rw [State.evaluate_rgbO, convert_toNat, stepsNat_eq_formulaNat]

/-- Settles O51: both steps evaluate one request, which alone makes the response and the wires. -/
theorem noHiddenState : Obligations.NoHiddenState := by
  intro x y hx hy hhue hsat hval
  refine ⟨_, _, step_of_requestTarget x hx, step_of_requestTarget y hy, ?rgb, ?signals⟩
  case rgb => simp only [State.evaluate_rgbO, hhue, hsat, hval]
  case signals => simp only [State.evaluate_signals, hhue, hsat, hval]

/-- The named reset state is the evaluation of the request on its ports. -/
theorem evaluate_reset : State.reset.evaluate 0 0 0 = State.reset := rfl

/-- Settles O54: the reset state is an evaluation of its own request. -/
theorem resetIsSettledAndInRange : Obligations.ResetIsSettledAndInRange :=
  ⟨evaluate_reset ▸ settled_evaluate State.reset 0 0 0,
    evaluate_reset ▸ signalsInRange_evaluate State.reset 0 0 0, rfl,
    (step_of_requestTarget State.reset (.inl rfl)).trans (congrArg _ evaluate_reset)⟩

end Sys2Proof.Machine

/-!
# Evaluations one after another (spec/20_memory.md)

Nothing is consumed by an evaluation (R23) and nothing of it is remembered (R26): first what a second
evaluation of the same operation finds, then a sequence of requests.
-/

namespace Sys2Proof.Machine

open Sys2Proof.Safety

/-! ### Driving an output of the bench again overrides what was driven before -/

section Bench

variable (s : State)

@[simp] theorem State.driveScale8_driveScale8 (p p' : Product) (x x' : Byte) :
    (s.driveScale8 p x).driveScale8 p' x' = s.driveScale8 p' x' := rfl

@[simp] theorem State.driveVideo_driveVideo (p p' : Product) (x x' : Byte) :
    (s.driveVideo p x).driveVideo p' x' = s.driveVideo p' x' := rfl

@[simp] theorem State.driveSplit_driveSplit (c c' : Sector) (o o' : Offset) :
    (s.driveSplit c o).driveSplit c' o' = s.driveSplit c' o' := rfl

@[simp] theorem State.drivePack_drivePack (w w' : RgbWord) :
    (s.drivePack w).drivePack w' = s.drivePack w' := rfl

@[simp] theorem State.driveThird_driveThird (x x' : Byte) :
    (s.driveThird x).driveThird x' = s.driveThird x' := rfl

@[simp] theorem State.driveTwothirds_driveTwothirds (x x' : Byte) :
    (s.driveTwothirds x).driveTwothirds x' = s.driveTwothirds x' := rfl

end Bench

/-! ### The same operation a second time (R23) -/

/-- An operation, well-formed or not, drives values made of its operands alone, so that a second
evaluation drives the same ones. -/
theorem exec_of_exec_next {i : Instr} {s t : State} (h : exec i s = .next t) :
    exec i t = .next t := by
  cases i <;> obtain rfl := Host.Outcome.next.inj h
  case scale8 => exact congrArg Host.Outcome.next (State.driveScale8_driveScale8 s _ _ _ _)
  case scale8Video => exact congrArg Host.Outcome.next (State.driveVideo_driveVideo s _ _ _ _)
  case split => exact congrArg Host.Outcome.next (State.driveSplit_driveSplit s _ _ _ _)
  case pack => exact congrArg Host.Outcome.next (State.drivePack_drivePack s _ _)
  case third => exact congrArg Host.Outcome.next (State.driveThird_driveThird s _ _)
  case twothirds => exact congrArg Host.Outcome.next (State.driveTwothirds_driveTwothirds s _ _)
  all_goals exact congrArg Host.Outcome.next (State.settle_settle s _ _ _ _ _ _ _ _ _ _ _ _)

/-! ### The same step a second time (R23, R117) -/

/-- The target and the bench's inputs are those of `s`. -/
def SameBenchInputs (s t : State) : Prop :=
  t.target = s.target ∧ t.laneA = s.laneA ∧ t.laneB = s.laneB ∧ t.laneC = s.laneC

/-- No operation moves the target or the bench's inputs: only the host does. -/
theorem sameBenchInputs_of_exec {i : Instr} {s t : State} (h : exec i s = .next t) :
    SameBenchInputs s t := by
  cases i <;> obtain rfl := Host.Outcome.next.inj h <;> exact ⟨rfl, rfl, rfl, rfl⟩

/-- A target that is not a request's reads the bench's inputs alone. -/
theorem fetched_of_sameBenchInputs {s t : State} (hbench : ¬ IsRequestTarget s.target)
    (h : SameBenchInputs s t) : t.fetched = s.fetched := by
  obtain ⟨htarget, ha, hb, hc⟩ := h
  have hbytes : t.operandBytes = s.operandBytes := by
    unfold State.operandBytes
    rw [htarget, ha, hb, hc]
    cases hs : s.target
    case whole => exact absurd (.inl hs) hbench
    case sector => exact absurd (.inr (.inl hs)) hbench
    case sat => exact absurd (.inr (.inr (.inl hs))) hbench
    case val => exact absurd (.inr (.inr (.inr hs))) hbench
    all_goals rfl
  rw [fetched_eq_decode, fetched_eq_decode, htarget, hbytes]

/-- A step that fetches an operation runs it. -/
theorem step_of_fetched {s : State} {i : Instr} (h : s.fetched = .ok i) : step s = exec i s := by
  rw [step, h]

/-- A step leaves its operand word where it stands, so that the next step runs the same operation:
on the ports the request evaluated is the one that stands there, and on the bench no input moves. -/
theorem step_of_step_next {s t : State} (h : step s = .next t) : step t = .next t := by
  by_cases hrequest : IsRequestTarget s.target
  · rw [step_of_requestTarget s hrequest] at h
    obtain rfl := Host.Outcome.next.inj h
    exact step_of_requestTarget (s.evaluate s.hueI s.satI s.valI) hrequest
  · obtain ⟨i, hi, hexec⟩ := step_next_cases s t h
    have hfetched : t.fetched = .ok i :=
      (fetched_of_sameBenchInputs hrequest (sameBenchInputs_of_exec hexec)).trans hi
    rw [step_of_fetched hfetched]
    exact exec_of_exec_next hexec

/-! ### A sequence of requests (R26, R148) -/

/-- The step after a request is presented finds the block settled already. -/
theorem step_present (s : State) (hue sat val : Byte) :
    step (s.present hue sat val) = .next (s.present hue sat val) :=
  step_of_requestTarget (s.present hue sat val) (.inl rfl)

/-- Every request is answered, by its own conversion whatever the state (R39, R112). -/
theorem ask_eq (s : State) (r : Request) :
    ask s r = some (convert r.hue r.sat r.val, s.present r.hue r.sat r.val) := by
  rw [ask, step_present]
  rfl

/-- R148: the responses to a sequence are those of its requests, each converted on its own. -/
theorem serve_eq (s : State) (rs : List Request) :
    serve s rs = rs.map fun r => convert r.hue r.sat r.val := by
  induction rs generalizing s with
  | nil => rfl
  | cons r rest ih => simp only [serve, ask_eq, ih, List.map_cons]

/-- HSV2RGB is the formula of R114. -/
theorem convert_toNat_eq_formulaNat (hue sat val : Byte) :
    (convert hue sat val).toNat = formulaNat hue.toNat sat.toNat val.toNat := by
  rw [convert_toNat, stepsNat_eq_formulaNat]

/-! ### The obligations -/

/-- Settles O50: an operation reads nothing that it drives, and a step moves nothing that it reads. -/
theorem evaluationIsIdempotent : Obligations.EvaluationIsIdempotent :=
  ⟨fun _ _ _ => exec_of_exec_next, fun _ _ => step_of_step_next⟩

/-- Settles O59: each request of the sequence is converted on its own, by the formula. -/
theorem requestsAreServedIndependently : Obligations.RequestsAreServedIndependently := by
  intro rs s
  rw [serve_eq, List.map_map]
  exact List.map_congr_left fun r _ => convert_toNat_eq_formulaNat r.hue r.sat r.val

end Sys2Proof.Machine

/-!
# Encoding and decoding (spec/30_encoding.md)

First the fields of an operand word, then `encode` and `decode` against each other and against the
table, then what follows for the machine: which operation a request row is, what a step runs and
when it is refused.
-/

namespace Sys2Proof.Machine

open Sys2Proof.Safety

/-! ### The fixed bits of the group `use` (R42) -/

/-- The bits OP[10:0] of an OP16 word, over the natural numbers. -/
theorem op16_and_eq_iff (a b : Byte) {m : BitVec 16} :
    op16 a b &&& 0x07FF = m ↔ (a.toNat * 256 + b.toNat) % 2048 = m.toNat := by
  have hb := b.isLt
  have hop : (op16 a b).toNat = a.toNat * 256 + b.toNat := by
    have h : (op16 a b).toNat = a.toNat <<< 8 ||| b.toNat := BitVec.toNat_append a b
    rw [h, ← Nat.shiftLeft_add_eq_or_of_lt hb, Nat.shiftLeft_eq]
  rw [← BitVec.toNat_inj, BitVec.toNat_and, hop]
  exact (Nat.and_two_pow_sub_one_eq_mod _ 11).congr_left

theorem decodeThird_eq (a b : Byte) :
    decodeThird a b =
      if (a.toNat * 256 + b.toNat) % 2048 = 0x055 then .ok (.third (a.extractLsb' 3 5))
      else .error .notThird := by
  simp only [decodeThird, op16_and_eq_iff]
  rfl

theorem decodeTwothirds_eq (a b : Byte) :
    decodeTwothirds a b =
      if (a.toNat * 256 + b.toNat) % 2048 = 0x0AA then .ok (.twothirds (a.extractLsb' 3 5))
      else .error .notTwothirds := by
  simp only [decodeTwothirds, op16_and_eq_iff]
  rfl

theorem extractLsb'_offset8 (o : Offset) : (offset8 o).extractLsb' 3 5 = o := by
  apply BitVec.eq_of_toNat_eq
  have := o.isLt
  simp [Nat.shiftRight_eq_div_pow]
  omega

/-- A byte whose low three bits are zero is an offset shifted into place. -/
theorem offset8_extractLsb' {a : Byte} (h : a.toNat % 8 = 0) :
    offset8 (a.extractLsb' 3 5) = a := by
  apply BitVec.eq_of_toNat_eq
  have := a.isLt
  simp [Nat.shiftRight_eq_div_pow]
  omega

/-- An OP16 word with the low bits of a use row is an operand word of that row. -/
theorem use_bytes_of_fixedBits {a b bits : Byte}
    (h : (a.toNat * 256 + b.toNat) % 2048 = bits.toNat) :
    offset8 (a.extractLsb' 3 5) = a ∧ b = bits := by
  have hb := b.isLt
  have hbits := bits.isLt
  exact ⟨offset8_extractLsb' (by omega), BitVec.eq_of_toNat_eq (by omega)⟩

/-! ### Encoding what was decoded (R35, R39) -/

theorem encode_decodeSector (hue sat val : Byte) :
    encode (decodeSector hue sat val) = ⟨.sector, [hue, sat, val]⟩ := by
  obtain ⟨c, o, rfl⟩ : ∃ c o, hue = hueOf c o := ⟨_, _, (hueOf_fields hue).symm⟩
  simp only [decodeSector, sectorField_hueOf, offsetField_hueOf]
  rcases sector_cases c with rfl | rfl | rfl | rfl | rfl | rfl | rfl | rfl <;> rfl

theorem encode_decodeSat (hue sat val : Byte) :
    encode (decodeSat hue sat val) = ⟨.sat, [hue, sat, val]⟩ := by
  unfold decodeSat
  split_ifs with hfull hzero
  · subst hfull
    rfl
  · subst hzero
    rfl
  · rfl

theorem encode_decodeVal (hue sat val : Byte) :
    encode (decodeVal hue sat val) = ⟨.val, [hue, sat, val]⟩ := by
  unfold decodeVal
  split_ifs with hfull hzero
  · subst hfull
    rfl
  · subst hzero
    rfl
  · rfl

theorem encode_of_decodeThird {a b : Byte} {i : Instr} (h : decodeThird a b = .ok i) :
    encode i = ⟨.third, [a, b]⟩ := by
  rw [decodeThird_eq] at h
  split_ifs at h with hbits
  obtain ⟨ha, rfl⟩ := use_bytes_of_fixedBits (bits := 0x55) hbits
  obtain rfl := Except.ok.inj h
  exact congrArg (fun x => Encoded.mk .third [x, 0x55]) ha

theorem encode_of_decodeTwothirds {a b : Byte} {i : Instr} (h : decodeTwothirds a b = .ok i) :
    encode i = ⟨.twothirds, [a, b]⟩ := by
  rw [decodeTwothirds_eq] at h
  split_ifs at h with hbits
  obtain ⟨ha, rfl⟩ := use_bytes_of_fixedBits (bits := 0xAA) hbits
  obtain rfl := Except.ok.inj h
  exact congrArg (fun x => Encoded.mk .twothirds [x, 0xAA]) ha

/-- Nothing of a word that decodes is lost. -/
theorem encode_of_decode {t : Target} {bytes : List Byte} {i : Instr}
    (h : decode t bytes = .ok i) : encode i = ⟨t, bytes⟩ := by
  unfold decode at h
  split at h
  case h_2 => exact Except.ok.inj h ▸ encode_decodeSector _ _ _
  case h_3 => exact Except.ok.inj h ▸ encode_decodeSat _ _ _
  case h_4 => exact Except.ok.inj h ▸ encode_decodeVal _ _ _
  case h_9 => exact encode_of_decodeThird h
  case h_10 => exact encode_of_decodeTwothirds h
  case h_11 => cases h
  all_goals exact Except.ok.inj h ▸ rfl

/-- R39: no request is rejected, in whichever group it is read. -/
theorem decode_request {t : Target} (ht : IsRequestTarget t) (hue sat val : Byte) :
    ∃ i, decode t [hue, sat, val] = .ok i := by
  rcases ht with rfl | rfl | rfl | rfl <;> exact ⟨_, rfl⟩

/-! ### Decoding what was encoded (R36 to R38, R42) -/

theorem isPartial_iff (x : Byte) : isPartial x = true ↔ x ≠ 0 ∧ x ≠ 255 := by
  rw [isPartial, Bool.and_eq_true, bne_iff_ne, bne_iff_ne]

theorem decodeSat_of_isPartial {sat : Byte} (h : isPartial sat = true) (hue val : Byte) :
    decodeSat hue sat val = .satPartial hue sat val := by
  obtain ⟨hzero, hfull⟩ := (isPartial_iff sat).mp h
  rw [decodeSat, if_neg hfull, if_neg hzero]

theorem decodeVal_of_isPartial {val : Byte} (h : isPartial val = true) (hue sat : Byte) :
    decodeVal hue sat val = .valPartial hue sat val := by
  obtain ⟨hzero, hfull⟩ := (isPartial_iff val).mp h
  rw [decodeVal, if_neg hfull, if_neg hzero]

theorem decodeThird_offset8 (o : Offset) : decodeThird (offset8 o) 0x55 = .ok (.third o) := by
  have hbits : ((offset8 o).toNat * 256 + (0x55 : Byte).toNat) % 2048 = 0x055 := by
    have := offset8_toNat o
    bv_omega
  rw [decodeThird_eq, if_pos hbits, extractLsb'_offset8]

theorem decodeTwothirds_offset8 (o : Offset) :
    decodeTwothirds (offset8 o) 0xAA = .ok (.twothirds o) := by
  have hbits : ((offset8 o).toNat * 256 + (0xAA : Byte).toNat) % 2048 = 0x0AA := by
    have := offset8_toNat o
    bv_omega
  rw [decodeTwothirds_eq, if_pos hbits, extractLsb'_offset8]

/-- The row of the sector group for each value of `hue[7:5]` (R36). -/
def sectorRow (c : Sector) (o : Offset) (sat val : Byte) : Instr :=
  match c.toNat with
  | 0 => .sec0 o sat val
  | 1 => .sec1 o sat val
  | 2 => .sec2 o sat val
  | 3 => .sec3 o sat val
  | 4 => .sec4 o sat val
  | 5 => .sec5 o sat val
  | 6 => .sec6 o sat val
  | _ => .sec7 o sat val

theorem decodeSector_hueOf (c : Sector) (o : Offset) (sat val : Byte) :
    decodeSector (hueOf c o) sat val = sectorRow c o sat val := by
  simp only [decodeSector, sectorField_hueOf, offsetField_hueOf]
  rcases sector_cases c with rfl | rfl | rfl | rfl | rfl | rfl | rfl | rfl <;> rfl

theorem decode_sector_hueOf (c : Sector) (o : Offset) (sat val : Byte) :
    decode .sector [hueOf c o, sat, val] = .ok (sectorRow c o sat val) :=
  congrArg Except.ok (decodeSector_hueOf c o sat val)

/-- Only the partial modes need their operand checked: the words of the other rows fix the bits that
select them. -/
theorem decode_encode {i : Instr} (hwf : i.wellFormed = true) :
    decode (encode i).target (encode i).bytes = .ok i := by
  cases i
  case third o => exact decodeThird_offset8 o
  case twothirds o => exact decodeTwothirds_offset8 o
  case sec0 o sat val => exact decode_sector_hueOf 0 o sat val
  case sec1 o sat val => exact decode_sector_hueOf 1 o sat val
  case sec2 o sat val => exact decode_sector_hueOf 2 o sat val
  case sec3 o sat val => exact decode_sector_hueOf 3 o sat val
  case sec4 o sat val => exact decode_sector_hueOf 4 o sat val
  case sec5 o sat val => exact decode_sector_hueOf 5 o sat val
  case sec6 o sat val => exact decode_sector_hueOf 6 o sat val
  case sec7 o sat val => exact decode_sector_hueOf 7 o sat val
  case satPartial hue sat val => exact congrArg Except.ok (decodeSat_of_isPartial hwf hue val)
  case valPartial hue sat val => exact congrArg Except.ok (decodeVal_of_isPartial hwf hue sat)
  all_goals rfl

/-! ### The rows of the table (R35) -/

/-- A mask of adjacent bits takes one field of the word, in its place. -/
theorem and_fieldMask (w width shift : Nat) :
    w &&& (2 ^ width - 1) * 2 ^ shift = w / 2 ^ shift % 2 ^ width * 2 ^ shift := by
  apply Nat.eq_of_testBit_eq
  intro j
  rw [Nat.testBit_and, Nat.testBit_mul_two_pow, Nat.testBit_mul_two_pow,
    Nat.testBit_two_pow_sub_one, Nat.testBit_mod_two_pow, Nat.testBit_div_two_pow]
  by_cases hj : shift ≤ j
  · simp [hj, Bool.and_comm]
  · simp [hj]

section Request

variable (hue sat val : Byte)

/-- The word REQ24 as a number (R30). -/
def requestWord : Nat := hue.toNat * 65536 + sat.toNat * 256 + val.toNat

theorem requestWord_and_sectorMask :
    requestWord hue sat val &&& 0xE00000 = (sectorField hue).toNat * 0x200000 := by
  have hs := sat.isLt
  have hv := val.isLt
  have hh := hue.isLt
  have hfield : requestWord hue sat val / 2 ^ 21 % 2 ^ 3 = (sectorField hue).toNat := by
    rw [sectorField_toNat, requestWord]
    omega
  exact (and_fieldMask _ 3 21).trans (congrArg (· * 2 ^ 21) hfield)

theorem requestWord_and_satMask : requestWord hue sat val &&& 0x00FF00 = sat.toNat * 0x100 := by
  have hs := sat.isLt
  have hv := val.isLt
  have hfield : requestWord hue sat val / 2 ^ 8 % 2 ^ 8 = sat.toNat := by
    rw [requestWord]
    omega
  exact (and_fieldMask _ 8 8).trans (congrArg (· * 2 ^ 8) hfield)

theorem requestWord_and_valMask : requestWord hue sat val &&& 0x0000FF = val.toNat := by
  have hv := val.isLt
  rw [Nat.and_two_pow_sub_one_eq_mod _ 8, requestWord]
  omega

/-- The mnemonic of the row that each value of `hue[7:5]` selects (R36). -/
def sectorMnemonic (c : Nat) : String :=
  ["SEC0", "SEC1", "SEC2", "SEC3", "SEC4", "SEC5", "SEC6", "SEC7"].getD c ""

/-- The mnemonic of the row that each `sat` selects (R37). -/
def satMnemonic : String :=
  if sat = 255 then "SAT_FULL" else if sat = 0 then "SAT_ZERO" else "SAT_PARTIAL"

/-- The mnemonic of the row that each `val` selects (R38). -/
def valMnemonic : String :=
  if val = 255 then "VAL_FULL" else if val = 0 then "VAL_BLACK" else "VAL_PARTIAL"

theorem mnemonic_decodeSector :
    (decodeSector hue sat val).mnemonic = sectorMnemonic (hue.toNat / 32) := by
  rw [← sectorField_toNat, ← hueOf_fields hue, decodeSector_hueOf, sectorField_hueOf]
  rcases sector_cases (sectorField hue) with h | h | h | h | h | h | h | h <;> rw [h] <;> rfl

theorem mnemonic_decodeSat : (decodeSat hue sat val).mnemonic = satMnemonic sat := by
  unfold decodeSat satMnemonic
  split_ifs <;> rfl

theorem mnemonic_decodeVal : (decodeVal hue sat val).mnemonic = valMnemonic val := by
  unfold decodeVal valMnemonic
  split_ifs <;> rfl

end Request

theorem mnemonic_selectRow_sector (hue sat val : Byte) :
    (selectRow .sector (requestWord hue sat val)).map Row.mnemonic =
      some (sectorMnemonic (hue.toNat / 32)) := by
  have hmask := requestWord_and_sectorMask hue sat val
  rw [← sectorField_toNat]
  rcases sector_cases (sectorField hue) with h | h | h | h | h | h | h | h <;> rw [h] at hmask ⊢ <;>
    simp [selectRow, opcodeTable, rowMatches, hmask, sectorMnemonic]

/-- The two rows that fix `sat` stand before the one that fixes nothing and matches every word. -/
theorem mnemonic_selectRow_sat (hue sat val : Byte) :
    (selectRow .sat (requestWord hue sat val)).map Row.mnemonic = some (satMnemonic sat) := by
  have hmask := requestWord_and_satMask hue sat val
  have hfull : requestWord hue sat val &&& 0x00FF00 = 0x00FF00 ↔ sat = 255 := by bv_omega
  have hzero : requestWord hue sat val &&& 0x00FF00 = 0 ↔ sat = 0 := by bv_omega
  simp only [satMnemonic, ← hfull, ← hzero]
  split_ifs with hf hz
  · simp [selectRow, opcodeTable, rowMatches, hf]
  · simp [selectRow, opcodeTable, rowMatches, hz]
  · simp [selectRow, opcodeTable, rowMatches, hf, hz]

/-- The two rows that fix `val` stand before the one that fixes nothing and matches every word. -/
theorem mnemonic_selectRow_val (hue sat val : Byte) :
    (selectRow .val (requestWord hue sat val)).map Row.mnemonic = some (valMnemonic val) := by
  have hmask := requestWord_and_valMask hue sat val
  have hfull : requestWord hue sat val &&& 0x0000FF = 0x0000FF ↔ val = 255 := by bv_omega
  have hzero : requestWord hue sat val &&& 0x0000FF = 0 ↔ val = 0 := by bv_omega
  simp only [valMnemonic, ← hfull, ← hzero]
  split_ifs with hf hz
  · simp [selectRow, opcodeTable, rowMatches, hf]
  · simp [selectRow, opcodeTable, rowMatches, hz]
  · simp [selectRow, opcodeTable, rowMatches, hf, hz]

/-! ### Every request row is the conversion of its request (R35, R74, R90, R100) -/

/-- Whichever group reads a request, the operation decoded evaluates that request. -/
theorem exec_of_decode_request {t : Target} {hue sat val : Byte} {i : Instr}
    (ht : IsRequestTarget t) (h : decode t [hue, sat, val] = .ok i) (s : State) :
    exec i s = .next (s.evaluate hue sat val) := by
  rcases ht with rfl | rfl | rfl | rfl
  · exact Except.ok.inj h ▸ exec_hsv2rgb s hue sat val
  · exact Except.ok.inj h ▸ exec_decodeSector hue sat val s
  · exact Except.ok.inj h ▸ exec_decodeSat hue sat val s
  · exact Except.ok.inj h ▸ exec_decodeVal hue sat val s

/-- An operation whose word is a request does what HSV2RGB of that request does. -/
theorem exec_eq_hsv2rgb_of_encode (i : Instr) {t : Target} {hue sat val : Byte}
    (hwf : i.wellFormed = true) (ht : IsRequestTarget t) (h : encode i = ⟨t, [hue, sat, val]⟩)
    (s : State) : exec i s = exec (.hsv2rgb hue sat val) s := by
  have hdecode := decode_encode hwf
  rw [h] at hdecode
  exact exec_of_decode_request ht hdecode s

/-- A sector row is HSV2RGB at `hue = 32 * sector + offset`. -/
theorem exec_sectorRow (c : Sector) (o : Offset) (sat val : Byte) (s : State) :
    exec (sectorRow c o sat val) s =
      exec (.hsv2rgb (BitVec.ofNat 8 (32 * c.toNat + o.toNat)) sat val) s := by
  rw [← hueOf_toNat, BitVec.ofNat_toNat, BitVec.setWidth_eq]
  exact exec_of_decode_request (.inr (.inl rfl)) (decode_sector_hueOf c o sat val) s

/-! ### When a step is refused (R42) -/

/-- R120: every operation completes. -/
theorem exec_completes (i : Instr) (s : State) : ∃ t, exec i s = .next t := by
  cases i <;> exact ⟨_, rfl⟩

/-- Nothing but a word that its target does not read is refused. -/
theorem step_refused_iff (s : State) :
    (∃ r, step s = .refused r) ↔ ∃ why, s.fetched = .error why := by
  unfold step
  split
  case h_1 i hi =>
    obtain ⟨t, ht⟩ := exec_completes i s
    simp [ht, hi]
  case h_2 why hwhy => simp [hwhy]

/-- The only targets that reject bytes of their own number are the two whose row fixes bits. -/
theorem fetched_error_iff (s : State) :
    (∃ why, s.fetched = .error why) ↔
      (s.target = .third ∧ (s.laneA.toNat * 256 + s.laneB.toNat) % 2048 ≠ 0x055) ∨
      (s.target = .twothirds ∧ (s.laneA.toNat * 256 + s.laneB.toNat) % 2048 ≠ 0x0AA) := by
  cases h : s.target <;> simp only [fetched_eq_decode, State.operandBytes, h, decode]
  case third =>
    rw [decodeThird_eq]
    split_ifs with hbits <;> simp [hbits]
  case twothirds =>
    rw [decodeTwothirds_eq]
    split_ifs with hbits <;> simp [hbits]
  all_goals simp

/-! ### A word that was put is what the next step reads -/

/-- Putting bytes that the target reads: a request moves the ports and what follows them, any other
word moves the bench's inputs. -/
theorem place_of_decode {t : Target} {bytes : List Byte} {i : Instr} (h : decode t bytes = .ok i)
    (s : State) :
    (IsRequestTarget t ∧
        ∃ hue sat val, s.place t bytes = { s.evaluate hue sat val with target := t }) ∨
      (¬ IsRequestTarget t ∧
        ∃ a b c, s.place t bytes = { s with target := t, laneA := a, laneB := b, laneC := c }) := by
  unfold decode at h
  split at h
  case h_1 => exact .inl ⟨.inl rfl, _, _, _, rfl⟩
  case h_2 => exact .inl ⟨.inr (.inl rfl), _, _, _, rfl⟩
  case h_3 => exact .inl ⟨.inr (.inr (.inl rfl)), _, _, _, rfl⟩
  case h_4 => exact .inl ⟨.inr (.inr (.inr rfl)), _, _, _, rfl⟩
  case h_11 => cases h
  all_goals exact .inr ⟨by simp [IsRequestTarget], _, _, _, rfl⟩

theorem fetched_place {t : Target} {bytes : List Byte} {i : Instr} (h : decode t bytes = .ok i)
    (s : State) : (s.place t bytes).fetched = .ok i := by
  rw [← h]
  unfold decode at h
  split at h
  case h_11 => cases h
  all_goals rfl

theorem onlyTheInputs_place {t : Target} {bytes : List Byte} {i : Instr}
    (h : decode t bytes = .ok i) (s : State) : OnlyTheInputs s (s.place t bytes) := by
  rcases place_of_decode h s with ⟨ht, hue, sat, val, heq⟩ | ⟨ht, a, b, c, heq⟩ <;> rw [heq]
  · exact ⟨fun _ => rfl, fun hnot => absurd ht hnot⟩
  · exact ⟨fun hreq => absurd hreq ht, fun _ => rfl⟩

/-- A request that is put settles the block, whatever it carried before. -/
theorem settled_place_of_request {t : Target} {bytes : List Byte} {i : Instr}
    (h : decode t bytes = .ok i) (s : State) (hreq : IsRequestTarget (s.place t bytes).target) :
    Settled (s.place t bytes) := by
  rcases place_of_decode h s with ⟨-, hue, sat, val, heq⟩ | ⟨ht, a, b, c, heq⟩
  · exact heq ▸ settled_evaluate s hue sat val
  · rw [heq] at hreq
    exact absurd hreq ht

/-- Reading a bare word is choosing a target for it and decoding its bytes there (log entry 3). -/
theorem decodeTableWord_some {nbits w : Nat} {i : Instr} (h : decodeTableWord nbits w = some i) :
    ∃ t, bareTarget nbits w = some t ∧ decode t (bytesOf (nbits / 8) w) = .ok i := by
  unfold decodeTableWord at h
  split_ifs at h
  split at h
  case h_1 => cases h
  case h_2 t ht =>
    split at h
    case h_1 j hj => exact ⟨t, ht, Option.some.inj h ▸ hj⟩
    case h_2 => cases h

theorem withFetchWord_of_bareTarget {nbits w : Nat} {t : Target} (h : bareTarget nbits w = some t)
    (s : State) : s.withFetchWord nbits w = s.place t (bytesOf (nbits / 8) w) := by
  rw [State.withFetchWord, State.placeWord, h]

/-! ### The obligations -/

/-- Settles O55, by the row of the operation. -/
theorem decodeOfEncode : Obligations.DecodeOfEncode :=
  fun _ => decode_encode

/-- Settles O42: each row is the operation that its group decodes from the request. -/
theorem requestRowsAgree : Obligations.RequestRowsAgree := by
  intro o hue sat val s
  have hhue : 32 * (0 : Sector).toNat + o.toNat = o.toNat := Nat.zero_add _
  have hsec0 := exec_sectorRow 0 o sat val s
  rw [hhue] at hsec0
  have hsat : IsRequestTarget .sat := .inr (.inr (.inl rfl))
  have hval : IsRequestTarget .val := .inr (.inr (.inr rfl))
  exact ⟨hsec0, exec_sectorRow 1 o sat val s, exec_sectorRow 2 o sat val s,
    exec_sectorRow 3 o sat val s, exec_sectorRow 4 o sat val s, exec_sectorRow 5 o sat val s,
    exec_sectorRow 6 o sat val s, exec_sectorRow 7 o sat val s,
    exec_eq_hsv2rgb_of_encode (.satFull hue val) rfl hsat rfl s,
    exec_eq_hsv2rgb_of_encode (.satZero hue val) rfl hsat rfl s,
    fun hzero hfull => exec_eq_hsv2rgb_of_encode (.satPartial hue sat val)
      (isPartial_of_ne hzero hfull) hsat rfl s,
    exec_eq_hsv2rgb_of_encode (.valFull hue sat) rfl hval rfl s,
    exec_eq_hsv2rgb_of_encode (.valBlack hue sat) rfl hval rfl s,
    fun hzero hfull => exec_eq_hsv2rgb_of_encode (.valPartial hue sat val)
      (isPartial_of_ne hzero hfull) hval rfl s⟩

/-- Settles O47: `Fault` has no value, and a refusal is a fetch that the fixed bits reject. -/
theorem onlyForeignUseWordsAreRefused : Obligations.OnlyForeignUseWordsAreRefused :=
  fun s => ⟨nofun, (step_refused_iff s).trans (fetched_error_iff s)⟩

/-- Settles O49: the word is put with the target that decodes it, and is fetched from there. -/
theorem fetchWordRunsNext : Obligations.FetchWordRunsNext := by
  intro s nbits w i h
  obtain ⟨t, ht, hdecode⟩ := decodeTableWord_some h
  rw [withFetchWord_of_bareTarget ht]
  exact ⟨step_of_fetched (fetched_place hdecode s), onlyTheInputs_place hdecode s,
    settled_place_of_request hdecode s⟩

/-- Settles O56: the decoder checks what makes an operation well-formed and drops no bit. -/
theorem encodeOfDecode : Obligations.EncodeOfDecode :=
  ⟨fun _ _ _ h => ⟨wellFormed_of_decode h, encode_of_decode h⟩,
    fun _ hue sat val ht => decode_request ht hue sat val⟩

/-- Settles O57: in each group the row selected has the mnemonic of the operation decoded. -/
theorem tableSelectsTheDecodedRow : Obligations.TableSelectsTheDecodedRow := by
  intro hue sat val
  refine ⟨fun t ht => ?_, mnemonic_decodeSector hue sat val, mnemonic_decodeSat hue sat val,
    mnemonic_decodeVal hue sat val⟩
  obtain ⟨i, hi, hrow⟩ : ∃ i, decode t [hue, sat, val] = .ok i ∧
      (selectRow t (requestWord hue sat val)).map Row.mnemonic = some i.mnemonic := by
    rcases ht with rfl | rfl | rfl
    · exact ⟨_, rfl, mnemonic_decodeSector hue sat val ▸ mnemonic_selectRow_sector hue sat val⟩
    · exact ⟨_, rfl, mnemonic_decodeSat hue sat val ▸ mnemonic_selectRow_sat hue sat val⟩
    · exact ⟨_, rfl, mnemonic_decodeVal hue sat val ▸ mnemonic_selectRow_val hue sat val⟩
  obtain ⟨row, hselect, hname⟩ := Option.map_eq_some_iff.mp hrow
  exact ⟨i, row, hi, hselect, hname.symm⟩

/-- Settles O45: what the target decodes is what a step fetches, and on the conversion's own target
that is the request on the ports. -/
theorem stepRunsTheDecodedOperation : Obligations.StepRunsTheDecodedOperation :=
  ⟨fun _ _ => step_of_fetched, fun s h => step_of_requestTarget s (.inl h)⟩

/-- Settles O58: each word is the encoding of its row. -/
theorem writtenWordsDecode : Obligations.WrittenWordsDecode :=
  ⟨decode_encode (i := .sec1 0 255 255) rfl, decode_encode (i := .satFull 32 255) rfl,
    decode_encode (i := .valFull 32 255) rfl, decode_encode (i := .hsv2rgb 32 255 255) rfl,
    decode_encode (i := .third 23) rfl, decode_encode (i := .twothirds 23) rfl,
    decode_encode (i := .scale8 248 85) rfl, decode_encode (i := .split 0xB7) rfl,
    decode_encode (i := .pack 171 85 0) rfl⟩

end Sys2Proof.Machine

/-!
# The multiplier SCALE8 (spec/40_scale8.md)

First the product and its bound (R51), then the properties of the result (R53), each from the exact
quotient that the result is, then what the operation leaves on the bench.
-/

namespace Sys2Proof.Machine

/-! ### The product (R51) -/

/-- R51: the form that needs only an 8-by-8 multiplier. -/
theorem scale8Product_toNat_eq_mul_add (i frac : Byte) :
    (scale8Product i frac).toNat = i.toNat * frac.toNat + i.toNat := by
  rw [scale8Product_toNat, Nat.add_comm 1, Nat.mul_succ]

/-- The bound of `scale8Product_le` is reached only at full scale: with either operand below 255 the
product stays at or below `254 * 256` or `255 * 255`. -/
theorem scale8Product_toNat_eq_65280_iff (i frac : Byte) :
    (scale8Product i frac).toNat = 65280 ↔ i = 255 ∧ frac = 255 := by
  rw [scale8Product_toNat]
  constructor
  · intro h
    have hi : ¬ i.toNat ≤ 254 := fun hlt => by
      have hle : i.toNat * (1 + frac.toNat) ≤ 254 * 256 := Nat.mul_le_mul hlt (by omega)
      omega
    have hfrac : ¬ frac.toNat ≤ 254 := fun hlt => by
      have hle : i.toNat * (1 + frac.toNat) ≤ 255 * 255 := Nat.mul_le_mul (by omega) (by omega)
      omega
    constructor <;> bv_omega
  · rintro ⟨rfl, rfl⟩
    rfl

/-! ### The result (R53) -/

/-- The result is the quotient of the product by 256. -/
theorem scale8_toNat_eq_product_div (i frac : Byte) :
    (scale8 i frac).toNat = (scale8Product i frac).toNat / 256 := by
  rw [scale8_toNat, scale8Product_toNat]

/-- Identity at full scale. -/
theorem scale8_full_right (i : Byte) : scale8 i 255 = i := by
  apply BitVec.eq_of_toNat_eq
  simp

/-- Zero at zero scale: a byte alone does not reach the high byte of the product. -/
theorem scale8_zero_right (i : Byte) : scale8 i 0 = 0 := by
  apply BitVec.eq_of_toNat_eq
  simp
  omega

/-- Exact at `i = 255`, where the product is `256 * frac + (255 - frac)`. -/
theorem scale8_full_left (frac : Byte) : scale8 255 frac = frac := by
  apply BitVec.eq_of_toNat_eq
  simp
  omega

/-- Monotone in both operands: the product does not decrease and the floor keeps order. -/
theorem scale8_toNat_le_scale8_toNat {i j frac f : Byte} (hi : i.toNat ≤ j.toNat)
    (hfrac : frac.toNat ≤ f.toNat) : (scale8 i frac).toNat ≤ (scale8 j f).toNat := by
  rw [scale8_toNat, scale8_toNat]
  exact Nat.div_le_div_right (Nat.mul_le_mul hi (Nat.add_le_add_left hfrac 1))

/-- Never grows: full scale, the largest, is the identity. -/
theorem scale8_toNat_le_left (i frac : Byte) : (scale8 i frac).toNat ≤ i.toNat :=
  calc (scale8 i frac).toNat
      ≤ (scale8 i 255).toNat := scale8_toNat_le_scale8_toNat le_rfl (Nat.le_pred_of_lt frac.isLt)
    _ = i.toNat := by rw [scale8_full_right]

/-- Bounded by the fraction, which the largest first operand gives exactly. -/
theorem scale8_toNat_le_right (i frac : Byte) : (scale8 i frac).toNat ≤ frac.toNat :=
  calc (scale8 i frac).toNat
      ≤ (scale8 255 frac).toNat := scale8_toNat_le_scale8_toNat (Nat.le_pred_of_lt i.isLt) le_rfl
    _ = frac.toNat := by rw [scale8_full_left]

/-- Zero exactly when the product stays in the low byte. -/
theorem scale8_eq_zero_iff (i frac : Byte) :
    scale8 i frac = 0 ↔ i.toNat * (frac.toNat + 1) < 256 := by
  have hzero : scale8 i frac = 0 ↔ (scale8 i frac).toNat = 0 := BitVec.toNat_inj.symm
  rw [hzero, scale8_toNat, Nat.add_comm 1, Nat.div_eq_zero_iff_lt (by decide)]

/-! ### The obligations -/

/-- Settles O2: the product that SCALE8 drives is the exact one, within R51's bound. -/
theorem scaleEightNeverClamps : Obligations.ScaleEightNeverClamps :=
  fun i frac s => ⟨_, exec_scale8 s i frac, scale8Product_toNat_eq_mul_add i frac,
    scale8Product_le i frac, scale8Product_toNat_eq_65280_iff i frac,
    scale8_toNat_eq_product_div i frac⟩

/-- Settles O3, row by row of R53's table. -/
theorem scaleEightProperties : Obligations.ScaleEightProperties := by
  intro i frac
  have hfull (h : frac.toNat = 255) : scale8 i frac = i := by
    obtain rfl : frac = 255 := BitVec.eq_of_toNat_eq h
    exact scale8_full_right i
  exact ⟨scale8_full_right i, scale8_zero_right i, scale8_zero_left frac,
    scale8_toNat_le_left i frac, fun _ => scale8_toNat_le_right i frac, hfull,
    scale8_full_left frac, fun _ hi => scale8_toNat_le_scale8_toNat hi le_rfl,
    fun _ hfrac => scale8_toNat_le_scale8_toNat le_rfl hfrac, scale8_eq_zero_iff i frac,
    (scale8_eq_zero_iff 1 254).mpr (by decide)⟩

/-- Settles O1: SCALE8 drives the exact product and its quotient, and the bench's other outputs and
the block stay. -/
theorem scaleEightMultiplies : Obligations.ScaleEightMultiplies := by
  intro i frac s
  refine ⟨_, exec_scale8 s i frac, scale8Product_toNat i frac, scale8_toNat i frac, rfl, ?worked⟩
  case worked =>
    rintro rfl rfl
    exact ⟨rfl, rfl⟩

end Sys2Proof.Machine

/-!
# The multiplier SCALE8_VIDEO (spec/41_scale8_video.md)

The result over a zero operand and over two non-zero ones, from which the contract of R61 and the
bounds of R62 follow, then what the operation leaves on the bench.
-/

namespace Sys2Proof.Machine

/-! ### The product (R62) -/

theorem videoProduct_toNat_le (i scale : Byte) : (videoProduct i scale).toNat ≤ 65025 :=
  videoProduct_toNat i scale ▸ videoProduct_le i scale

/-- R62: the high byte of the product leaves room for the final add. -/
theorem videoProduct_toNat_div_le (i scale : Byte) : (videoProduct i scale).toNat / 256 ≤ 254 :=
  Nat.div_le_div_right (videoProduct_toNat_le i scale)

/-! ### Zero and non-zero operands (R61) -/

theorem scale8Video_comm (i scale : Byte) : scale8Video i scale = scale8Video scale i := by
  simp only [scale8Video, videoProduct, BitVec.mul_comm, Bool.and_comm]

theorem scale8Video_zero_left (scale : Byte) : scale8Video 0 scale = 0 := by
  apply BitVec.eq_of_toNat_eq
  simp

theorem scale8Video_zero_right (i : Byte) : scale8Video i 0 = 0 := by
  rw [scale8Video_comm, scale8Video_zero_left]

theorem scale8Video_toNat_of_ne_zero {i scale : Byte} (hi : i ≠ 0) (hscale : scale ≠ 0) :
    (scale8Video i scale).toNat = i.toNat * scale.toNat / 256 + 1 := by
  rw [scale8Video_toNat, if_pos ⟨hi, hscale⟩]

/-- R61: the `+1` keeps two non-zero operands from giving zero, and nothing is added to a zero. -/
theorem scale8Video_eq_zero_iff (i scale : Byte) :
    scale8Video i scale = 0 ↔ i = 0 ∨ scale = 0 := by
  constructor
  · intro hzero
    by_contra! hne
    obtain ⟨hi, hscale⟩ := hne
    have hpos := scale8Video_toNat_of_ne_zero hi hscale
    rw [hzero] at hpos
    exact Nat.succ_ne_zero _ hpos.symm
  · rintro (rfl | rfl)
    · exact scale8Video_zero_left scale
    · exact scale8Video_zero_right i

/-! ### The bounds of the result (R62) -/

/-- Never grows: a non-zero `i` has `i * scale < i * 256`, so the floor is below `i` and the `+1`
reaches `i` at most. -/
theorem scale8Video_toNat_le_left (i scale : Byte) : (scale8Video i scale).toNat ≤ i.toNat := by
  by_cases hzero : i = 0 ∨ scale = 0
  · rw [(scale8Video_eq_zero_iff i scale).mpr hzero]
    exact Nat.zero_le _
  · obtain ⟨hi, hscale⟩ := not_or.mp hzero
    have hpos : 0 < i.toNat := by bv_omega
    have hlt : i.toNat * scale.toNat < i.toNat * 256 := Nat.mul_lt_mul_of_pos_left scale.isLt hpos
    rw [scale8Video_toNat_of_ne_zero hi hscale]
    omega

theorem scale8Video_toNat_le_right (i scale : Byte) :
    (scale8Video i scale).toNat ≤ scale.toNat :=
  scale8Video_comm i scale ▸ scale8Video_toNat_le_left scale i

/-- Full scale needs both operands at full scale, since neither is below the result. -/
theorem scale8Video_eq_255_iff (i scale : Byte) :
    scale8Video i scale = 255 ↔ i = 255 ∧ scale = 255 := by
  constructor
  · intro hfull
    have hi := scale8Video_toNat_le_left i scale
    have hscale := scale8Video_toNat_le_right i scale
    rw [hfull] at hi hscale
    constructor <;> bv_omega
  · rintro ⟨rfl, rfl⟩
    rfl

/-- R62: the result is the integer sum of the high byte and the `+1`, which therefore does not
wrap. -/
theorem scale8Video_toNat_eq_product_div (i scale : Byte) :
    (scale8Video i scale).toNat =
      (videoProduct i scale).toNat / 256 + (if i ≠ 0 ∧ scale ≠ 0 then 1 else 0) := by
  rw [scale8Video_toNat, videoProduct_toNat]

/-! ### The obligations -/

/-- Settles O5: the result that SCALE8_VIDEO drives is zero only over a zero operand. -/
theorem videoScaleZeroExactlyOnZero : Obligations.VideoScaleZeroExactlyOnZero :=
  fun i scale s => ⟨_, exec_scale8Video s i scale, scale8Video_eq_zero_iff i scale⟩

/-- Settles O6: the product and its high byte are bounded, and each operand bounds the result. -/
theorem videoScaleNeverWraps : Obligations.VideoScaleNeverWraps :=
  fun i scale s => ⟨_, exec_scale8Video s i scale, videoProduct_toNat_le i scale,
    videoProduct_toNat_div_le i scale, scale8Video_toNat_eq_product_div i scale,
    scale8Video_eq_255_iff i scale, scale8Video_toNat_le_left i scale,
    scale8Video_toNat_le_right i scale⟩

/-- Settles O4: SCALE8_VIDEO drives the exact product and the result, and the bench's other outputs
and the block stay. -/
theorem videoScaleMultiplies : Obligations.VideoScaleMultiplies := by
  intro i scale s
  refine ⟨_, exec_scale8Video s i scale, videoProduct_toNat i scale, scale8Video_toNat i scale, rfl,
    ?worked⟩
  case worked =>
    rintro rfl rfl
    rfl

end Sys2Proof.Machine

/-!
# The hue-sector decoder (spec/42_sector_decode.md)

First Step 1, the split of `hue` and the two interpolants (R70 to R73, R87); then the table as a
function of the sector and the interpolants, and with it the eight rows, each read through the one
lemma that says what the request of a row leaves on the wires (R75 to R82); then what holds across
the table: its zeros, its largest channel and its steps (R74, R83, R86).
-/

namespace Sys2Proof.Machine

open Sys2Proof.Safety

/-! ### Step 1 (R70 to R73) -/

theorem sectorField_setWidth (hue : Byte) : (sectorField hue).setWidth 8 = hue >>> 5 := by
  apply BitVec.eq_of_toNat_eq
  simp [Nat.shiftRight_eq_div_pow]
  omega

theorem offsetField_setWidth (hue : Byte) : (offsetField hue).setWidth 8 = hue &&& 0x1F := by
  apply BitVec.eq_of_toNat_eq
  have hmask : hue.toNat &&& 31 = hue.toNat % 32 := Nat.and_two_pow_sub_one_eq_mod hue.toNat 5
  simp [hmask]
  omega

/-- `hue = 32 * sector + offset`. -/
theorem toNat_eq_sector_offset (hue : Byte) :
    hue.toNat = 32 * (sectorField hue).toNat + (offsetField hue).toNat := by
  rw [← hueOf_toNat, hueOf_fields]

/-- R72's product: the multiplier's `1 + frac` is 86. -/
theorem third_toNat_eq_product_div (o : Offset) : (third o).toNat = 8 * o.toNat * 86 / 256 := by
  rw [third, scale8_toNat, offset8_toNat]
  rfl

/-- R73's product: the multiplier's `1 + frac` is 171. -/
theorem twothirds_toNat_eq_product_div (o : Offset) :
    (twothirds o).toNat = 8 * o.toNat * 171 / 256 := by
  rw [twothirds, scale8_toNat, offset8_toNat]
  rfl

/-- Settles O7: SPLIT drives the two fields, and the bench's other outputs and the block stay. -/
theorem splitCutsHue : Obligations.SplitCutsHue := by
  intro hue s
  refine ⟨_, exec_split s hue, sectorField_setWidth hue, offsetField_setWidth hue,
    toNat_eq_sector_offset hue, rfl, ?worked⟩
  case worked =>
    rintro rfl
    exact ⟨rfl, rfl⟩

/-- Settles O8: THIRD drives the interpolant, whose closed form bounds it. -/
theorem thirdIsTheRamp : Obligations.ThirdIsTheRamp := by
  intro o s
  refine ⟨_, exec_third s o, third_toNat_eq_product_div o, third_toNat o, third_le o, ?atStart,
    ?atEnd, ?worked, rfl⟩
  all_goals
    rintro rfl
    rfl

/-- Settles O9: TWOTHIRDS drives the interpolant, which is twice `third` at some offsets only. -/
theorem twothirdsIsTheRamp : Obligations.TwothirdsIsTheRamp := by
  intro o s
  refine ⟨_, exec_twothirds s o, twothirds_toNat_eq_product_div o, twothirds_toNat o,
    twothirds_le o, ?atStart, ?atEnd, ?worked, ?double, ?notDouble, rfl⟩
  case atStart | atEnd | worked =>
    rintro rfl
    rfl
  case double | notDouble =>
    rintro rfl
    exact ⟨rfl, rfl⟩

/-- Settles O10: the closed forms of R71, R72 and R73, evaluated at each offset. -/
theorem interpolantTable : Obligations.InterpolantTable := by
  simp only [Obligations.InterpolantTable, offset8_toNat, third_toNat, twothirds_toNat,
    BitVec.toNat_ofNat]
  decide

/-! ### The table as a function of the interpolants (R74) -/

/-- The table of R74, one line per sector, over any `third` and `twothirds`. -/
def rowNat (sector third twothirds : Nat) : Nat × Nat × Nat :=
  match sector with
  | 0 => (255 - third, third, 0)
  | 1 => (171, 85 + third, 0)
  | 2 => (171 - twothirds, 170 + third, 0)
  | 3 => (0, 255 - third, third)
  | 4 => (0, 171 - twothirds, 85 + twothirds)
  | 5 => (third, 0, 255 - third)
  | 6 => (85 + third, 0, 171 - third)
  | _ => (170 + third, 0, 85 - third)

theorem rawNat_eq_rowNat (hue : Nat) :
    rawNat hue = rowNat (hue / 32) (thirdNat (hue % 32)) (twothirdsNat (hue % 32)) := rfl

theorem thirdNat_le {n : Nat} (hn : n < 32) : thirdNat n ≤ 83 := by
  unfold thirdNat
  omega

theorem twothirdsNat_le {n : Nat} (hn : n < 32) : twothirdsNat n ≤ 165 := by
  unfold twothirdsNat
  omega

theorem nats_eq_iff {c : Rgb} {r g b : Nat} :
    nats c = (r, g, b) ↔ c.r.toNat = r ∧ c.g.toNat = g ∧ c.b.toNat = b := by
  simp [nats]

/-! ### The rows (R75 to R82) -/

theorem nats_rawColor_hueOf_eq_rowNat (c : Sector) (o : Offset) :
    nats (rawColor (hueOf c o)) = rowNat c.toNat (thirdNat o.toNat) (twothirdsNat o.toNat) := by
  rw [nats_rawColor, rawNat_eq_rowNat, ← sectorField_toNat, ← offsetField_toNat,
    sectorField_hueOf, offsetField_hueOf]

theorem rawInRange_rawColor_hueOf (c : Sector) (o : Offset) :
    RawInRange c.toNat (rawColor (hueOf c o)) := by
  have hrange := rawInRange_rawColor (hueOf c o)
  rwa [← sectorField_toNat, sectorField_hueOf] at hrange

/-- What the request of a sector row leaves: only the ports, the wires and the output move, the
interpolants are those of its offset, and the raw color is its row's, in the row's range. The raw
color at a given offset is stated for the end points and the worked examples. -/
theorem exec_sectorRow_wires (c : Sector) (o : Offset) (sat val : Byte) (s : State) :
    ∃ t, exec (sectorRow c o sat val) s = .next t ∧
      OnlyTheBlock s t (BitVec.ofNat 8 (32 * c.toNat + o.toNat)) sat val ∧
      t.signals.third.toNat = thirdNat o.toNat ∧
      t.signals.twothirds.toNat = twothirdsNat o.toNat ∧
      (∀ n, o = n → t.signals.raw = rawColor (hueOf c n)) ∧
      nats t.signals.raw = rowNat c.toNat t.signals.third.toNat t.signals.twothirds.toNat ∧
      RawInRange c.toNat t.signals.raw := by
  have hhue : BitVec.ofNat 8 (32 * c.toNat + o.toNat) = hueOf c o := by
    rw [← hueOf_toNat, BitVec.ofNat_toNat, BitVec.setWidth_eq]
  have hthird : (s.evaluate (hueOf c o) sat val).signals.third.toNat = thirdNat o.toNat := by
    simp [thirdNat]
  have htwothirds :
      (s.evaluate (hueOf c o) sat val).signals.twothirds.toNat = twothirdsNat o.toNat := by
    simp [twothirdsNat]
  refine ⟨s.evaluate (hueOf c o) sat val, ?exec, hhue ▸ onlyTheBlock_evaluate s _ sat val, hthird,
    htwothirds, ?color, ?channels, rawInRange_rawColor_hueOf c o⟩
  case exec => rw [exec_sectorRow, hhue, exec_hsv2rgb, State.evaluate_eq]
  case color =>
    rintro n rfl
    rfl
  case channels =>
    rw [hthird, htwothirds]
    exact nats_rawColor_hueOf_eq_rowNat c o

/-- Settles O11: row 0, whose red, all ones less `third`, is the complement of `third`. -/
theorem sec0RedToOrange : Obligations.Sec0RedToOrange := by
  intro o sat val s
  obtain ⟨t, hexec, hframe, hthird, htwothirds, hcolor, hnats, ⟨hrlo, -⟩, ⟨-, hghi⟩, -⟩ :=
    exec_sectorRow_wires 0 o sat val s
  obtain ⟨hr, hg, hb⟩ := nats_eq_iff.mp hnats
  have hcompl : t.signals.raw.r = ~~~t.signals.third := by bv_omega
  exact ⟨t, hexec, hframe, hthird, htwothirds, hr, hg, hb, hrlo, hghi, hcolor 0, hcolor 31,
    fun h => congrArg packColor (hcolor 16 h), hcompl⟩

/-- Settles O12: row 1, where green alone moves. -/
theorem sec1OrangeToYellow : Obligations.Sec1OrangeToYellow := by
  intro o sat val s
  obtain ⟨t, hexec, hframe, hthird, htwothirds, hcolor, hnats, -, ⟨hglo, hghi⟩, -⟩ :=
    exec_sectorRow_wires 1 o sat val s
  obtain ⟨hr, hg, hb⟩ := nats_eq_iff.mp hnats
  exact ⟨t, hexec, hframe, hthird, htwothirds, hr, hg, hb, hglo, hghi, hcolor 0, hcolor 31,
    fun h => congrArg packColor (hcolor 16 h)⟩

/-- Settles O13: row 2, where red falls by `twothirds`, which its anchor exceeds. -/
theorem sec2YellowToGreen : Obligations.Sec2YellowToGreen := by
  intro o sat val s
  obtain ⟨t, hexec, hframe, hthird, htwothirds, hcolor, hnats, ⟨hrlo, hrhi⟩, ⟨hglo, hghi⟩, -⟩ :=
    exec_sectorRow_wires 2 o sat val s
  obtain ⟨hr, hg, hb⟩ := nats_eq_iff.mp hnats
  exact ⟨t, hexec, hframe, hthird, htwothirds, hr, hg, hb,
    htwothirds.trans_le (twothirdsNat_le o.isLt), hrlo, hrhi, hglo, hghi, hcolor 0, hcolor 31,
    fun h => congrArg packColor (hcolor 16 h)⟩

/-- Settles O14: row 3, row 0 with its channels moved one place on. -/
theorem sec3GreenToAqua : Obligations.Sec3GreenToAqua := by
  intro o sat val s
  obtain ⟨t, hexec, hframe, hthird, htwothirds, hcolor, hnats, -, ⟨hglo, -⟩, -, hbhi⟩ :=
    exec_sectorRow_wires 3 o sat val s
  obtain ⟨hr, hg, hb⟩ := nats_eq_iff.mp hnats
  exact ⟨t, hexec, hframe, hthird, htwothirds, hr, hg, hb, hglo, hbhi, hcolor 0, hcolor 31,
    fun h => congrArg packColor (hcolor 16 h)⟩

/-- Settles O15: row 4, where blue gains what green loses. -/
theorem sec4AquaToBlue : Obligations.Sec4AquaToBlue := by
  intro o sat val s
  obtain ⟨t, hexec, hframe, hthird, htwothirds, hcolor, hnats, -, ⟨hglo, hghi⟩, hblo, hbhi⟩ :=
    exec_sectorRow_wires 4 o sat val s
  obtain ⟨hr, hg, hb⟩ := nats_eq_iff.mp hnats
  have hsum : t.signals.raw.g.toNat + t.signals.raw.b.toNat = 256 := by omega
  exact ⟨t, hexec, hframe, hthird, htwothirds, hr, hg, hb, hglo, hghi, hblo, hbhi, hcolor 0,
    hcolor 31, fun h => congrArg packColor (hcolor 16 h), hsum⟩

/-- Settles O16: row 5, row 3 with its channels moved one place on. -/
theorem sec5BlueToPurple : Obligations.Sec5BlueToPurple := by
  intro o sat val s
  obtain ⟨t, hexec, hframe, hthird, htwothirds, hcolor, hnats, ⟨-, hrhi⟩, -, hblo, -⟩ :=
    exec_sectorRow_wires 5 o sat val s
  obtain ⟨hr, hg, hb⟩ := nats_eq_iff.mp hnats
  exact ⟨t, hexec, hframe, hthird, htwothirds, hr, hg, hb, hrhi, hblo, hcolor 0, hcolor 31,
    fun h => congrArg packColor (hcolor 16 h)⟩

/-- Settles O17: row 6, where red gains what blue loses. -/
theorem sec6PurpleToPink : Obligations.Sec6PurpleToPink := by
  intro o sat val s
  obtain ⟨t, hexec, hframe, hthird, htwothirds, hcolor, hnats, ⟨hrlo, hrhi⟩, -, hblo, hbhi⟩ :=
    exec_sectorRow_wires 6 o sat val s
  obtain ⟨hr, hg, hb⟩ := nats_eq_iff.mp hnats
  exact ⟨t, hexec, hframe, hthird, htwothirds, hr, hg, hb, hrlo, hrhi, hblo, hbhi, hcolor 0,
    hcolor 31, fun h => congrArg packColor (hcolor 16 h)⟩

/-- Settles O18: row 7, which ends beside the pure red of hue 0. -/
theorem sec7PinkToRed : Obligations.Sec7PinkToRed := by
  intro o sat val s
  obtain ⟨t, hexec, hframe, hthird, htwothirds, hcolor, hnats, ⟨hrlo, hrhi⟩, -, hblo, hbhi⟩ :=
    exec_sectorRow_wires 7 o sat val s
  obtain ⟨hr, hg, hb⟩ := nats_eq_iff.mp hnats
  exact ⟨t, hexec, hframe, hthird, htwothirds, hr, hg, hb, hthird.trans_le (thirdNat_le o.isLt),
    hrlo, hrhi, hblo, hbhi, hcolor 0, hcolor 31, fun h => congrArg packColor (hcolor 16 h), rfl⟩

/-! ### The zeros and the largest channel of the table (R74, R83) -/

/-- Settles O19: the selection is the table of R74. -/
theorem sectorSelectsItsRow : Obligations.SectorSelectsItsRow :=
  fun hue sat val s => ⟨_, exec_hsv2rgb s hue sat val, sectorField_toNat hue,
    offsetField_toNat hue, nats_rawColor hue⟩

theorem thirdNat_eq_zero_iff {n : Nat} : thirdNat n = 0 ↔ n = 0 := by
  unfold thirdNat
  omega

/-- R83: one channel is zero across its row, and the other two only where a channel that is `third`
itself starts. -/
theorem rowNat_zeros {sector third twothirds : Nat} (hsector : sector < 8) (hthird : third ≤ 83)
    (htwothirds : twothirds ≤ 165) :
    ((rowNat sector third twothirds).1 = 0 ↔
      sector = 3 ∨ sector = 4 ∨ sector = 5 ∧ third = 0) ∧
    ((rowNat sector third twothirds).2.1 = 0 ↔
      sector = 5 ∨ sector = 6 ∨ sector = 7 ∨ sector = 0 ∧ third = 0) ∧
    ((rowNat sector third twothirds).2.2 = 0 ↔
      sector = 0 ∨ sector = 1 ∨ sector = 2 ∨ sector = 3 ∧ third = 0) := by
  interval_cases sector <;> simp [rowNat] <;> omega

/-- The starts of `rowNat_zeros` are green at hue 0, blue at hue 96 and red at hue 160. -/
theorem rawNat_zeros {hue : Nat} (hlt : hue < 256) :
    ((rawNat hue).1 = 0 ↔ hue / 32 = 3 ∨ hue / 32 = 4 ∨ hue = 160) ∧
    ((rawNat hue).2.1 = 0 ↔ hue / 32 = 5 ∨ hue / 32 = 6 ∨ hue / 32 = 7 ∨ hue = 0) ∧
    ((rawNat hue).2.2 = 0 ↔ hue / 32 = 0 ∨ hue / 32 = 1 ∨ hue / 32 = 2 ∨ hue = 96) := by
  have hoff : hue % 32 < 32 := Nat.mod_lt _ (by decide)
  have hstart (c : Nat) : hue / 32 = c ∧ hue % 32 = 0 ↔ hue = 32 * c := by omega
  have hzeros := rowNat_zeros (Nat.div_lt_of_lt_mul (n := 32) hlt) (thirdNat_le hoff)
    (twothirdsNat_le hoff)
  rwa [← rawNat_eq_rowNat, thirdNat_eq_zero_iff, hstart, hstart, hstart] at hzeros

/-- R83: in every row one channel is at least half. -/
theorem rowNat_largest {third : Nat} (hthird : third ≤ 83) (sector twothirds : Nat) :
    128 ≤ (rowNat sector third twothirds).1 ∨ 128 ≤ (rowNat sector third twothirds).2.1 ∨
      128 ≤ (rowNat sector third twothirds).2.2 := by
  unfold rowNat
  split <;> dsimp only <;> omega

/-- Settles O20: the ranges, the zeros and the largest channel of the table. -/
theorem rawColorStaysInItsRange : Obligations.RawColorStaysInItsRange := by
  intro hue sat val s
  have hlargest := rowNat_largest (thirdNat_le (Nat.mod_lt hue.toNat (by decide)))
    (hue.toNat / 32) (twothirdsNat (hue.toNat % 32))
  obtain ⟨hrz, hgz, hbz⟩ := rawNat_zeros hue.isLt
  rw [← rawNat_eq_rowNat, ← nats_rawColor] at hlargest
  rw [← nats_rawColor] at hrz hgz hbz
  refine ⟨_, exec_hsv2rgb s hue sat val, third_le _, twothirds_le _, nats_rawColor hue,
    rawInRange_rawColor hue, ?_, ?_, ?_, hlargest⟩
  all_goals simp only [← BitVec.toNat_inj]
  · exact hrz
  · exact hgz
  · exact hbz

/-! ### From one hue to the next (R86) -/

/-- At full saturation and value the response is the raw color. -/
theorem answers_rawColor (s : State) (hue : Byte) :
    Answers s (.hsv2rgb hue 255 255) (packColor (rawColor hue)) :=
  ⟨_, exec_hsv2rgb s hue 255 255, rfl⟩

/-- Settles O21: the raw colors on the two sides of each boundary, packed. -/
theorem sectorBoundariesJoin : Obligations.SectorBoundariesJoin :=
  fun s => ⟨answers_rawColor s 31, answers_rawColor s 32, answers_rawColor s 63,
    answers_rawColor s 64, answers_rawColor s 95, answers_rawColor s 96, answers_rawColor s 127,
    answers_rawColor s 128, answers_rawColor s 159, answers_rawColor s 160,
    answers_rawColor s 191, answers_rawColor s 192, answers_rawColor s 223,
    answers_rawColor s 224, answers_rawColor s 255, answers_rawColor s 0⟩

theorem thirdNat_succ (n : Nat) :
    thirdNat (n + 1) = thirdNat n + 2 ∨ thirdNat (n + 1) = thirdNat n + 3 := by
  unfold thirdNat
  omega

theorem twothirdsNat_succ (n : Nat) :
    twothirdsNat (n + 1) = twothirdsNat n + 5 ∨ twothirdsNat (n + 1) = twothirdsNat n + 6 := by
  unfold twothirdsNat
  omega

/-- Every channel of the one color is within `n` of the other's. -/
abbrev ChannelsWithin (n : Nat) (c d : Nat × Nat × Nat) : Prop :=
  (c.1 ≤ d.1 + n ∧ d.1 ≤ c.1 + n) ∧ (c.2.1 ≤ d.2.1 + n ∧ d.2.1 ≤ c.2.1 + n) ∧
    (c.2.2 ≤ d.2.2 + n ∧ d.2.2 ≤ c.2.2 + n)

/-- In every row a channel moves as its interpolant does. -/
theorem rowNat_within {third third' twothirds twothirds' : Nat} (sector : Nat)
    (hthird : third ≤ third' ∧ third' ≤ third + 6)
    (htwothirds : twothirds ≤ twothirds' ∧ twothirds' ≤ twothirds + 6) :
    ChannelsWithin 6 (rowNat sector third twothirds) (rowNat sector third' twothirds') := by
  unfold rowNat
  split <;> simp only [ChannelsWithin] <;> omega

theorem rawNat_succ_within {hue : Nat} (hin : hue % 32 ≠ 31) :
    ChannelsWithin 6 (rawNat hue) (rawNat (hue + 1)) := by
  have hsec : (hue + 1) / 32 = hue / 32 := by omega
  have hoff : (hue + 1) % 32 = hue % 32 + 1 := by omega
  have hthird := thirdNat_succ (hue % 32)
  have htwothirds := twothirdsNat_succ (hue % 32)
  rw [rawNat_eq_rowNat, rawNat_eq_rowNat, hsec, hoff]
  exact rowNat_within _ (by omega) (by omega)

/-- The last hue of a sector joins the first of the next, the wheel closing after hue 255. -/
theorem rawNat_boundary_within {c : Nat} (hc : c < 8) :
    ChannelsWithin 6 (rawNat (32 * c + 31)) (rawNat ((32 * c + 32) % 256)) := by
  interval_cases c <;> decide

theorem rawColor_succ_within (hue : Byte) :
    ChannelsWithin 6 (nats (rawColor hue)) (nats (rawColor (hue + 1))) := by
  rw [nats_rawColor, nats_rawColor]
  by_cases hin : hue.toNat % 32 = 31
  · have hboundary := rawNat_boundary_within (c := hue.toNat / 32) (by omega)
    have hlast : 32 * (hue.toNat / 32) + 31 = hue.toNat := by omega
    have hnext : (32 * (hue.toNat / 32) + 32) % 256 = (hue + 1).toNat := by bv_omega
    rwa [hlast, hnext] at hboundary
  · have hnext : (hue + 1).toNat = hue.toNat + 1 := by bv_omega
    rw [hnext]
    exact rawNat_succ_within hin

/-- Settles O22: the steps inside a sector and across a boundary. -/
theorem hueStepsAreSmall : Obligations.HueStepsAreSmall := by
  intro hue sat val s
  obtain ⟨⟨hr, hr'⟩, ⟨hg, hg'⟩, hb, hb'⟩ := rawColor_succ_within hue
  refine ⟨_, _, exec_hsv2rgb s hue sat val, exec_hsv2rgb s (hue + 1) sat val,
    hr, hr', hg, hg', hb, hb', fun hin => ?_⟩
  have hoff : (hue + 1).toNat % 32 = hue.toNat % 32 + 1 := by bv_omega
  simp only [State.settle_signals, assemble_third, assemble_twothirds, third_toNat,
    twothirds_toNat, offsetField_toNat, hoff]
  exact ⟨thirdNat_succ _, twothirdsNat_succ _⟩

end Sys2Proof.Machine

/-!
# The desaturation stage (spec/43_desaturate.md)

First the stage on any color: the scaled channels, the brightness floor and its bounds (R93, R94,
R96), and the one formula behind the three modes (R95). Then what a request of each mode leaves on
the wires (R91 to R93), and the corner cases of the two partial modes (R93, R104).
-/

namespace Sys2Proof.Machine

open Sys2Proof.Safety

/-! ### The stage as one formula (R95, R96) -/

/-- R96: the scaled channels carry no trace of the non-zero test. -/
theorem scaleColor_eq (c : Rgb) (frac : Byte) :
    scaleColor c frac = ⟨scale8 c.r frac, scale8 c.g frac, scale8 c.b frac⟩ := by
  simp only [scaleColor, scaleChannel_eq]

theorem satPartial_eq (raw : Rgb) (sat : Byte) :
    satPartial raw sat =
      ⟨scale8 raw.r sat + brightnessFloor sat, scale8 raw.g sat + brightnessFloor sat,
        scale8 raw.b sat + brightnessFloor sat⟩ := by
  rw [satPartial, scaleColor_eq, addFloor]

/-- At full saturation the multiplier is the identity and the floor is zero. -/
theorem satPartial_full (raw : Rgb) : satPartial raw 255 = satFull raw := by
  have hfloor : brightnessFloor 255 = 0 := rfl
  have hchannel (c : Byte) : scale8 c 255 + brightnessFloor 255 = c := by
    rw [scale8_full_right, hfloor]
    exact BitVec.add_zero c
  simp only [satPartial_eq, hchannel, satFull]

/-- At saturation zero the multiplier gives zero and the floor is full. -/
theorem satPartial_zero (raw : Rgb) : satPartial raw 0 = satZero := by
  have hfloor : brightnessFloor 0 = 255 := rfl
  have hchannel (c : Byte) : scale8 c 0 + brightnessFloor 0 = 255 := by
    rw [scale8_zero_right, hfloor]
    exact BitVec.zero_add 255
  simp only [satPartial_eq, hchannel, satZero]

/-- R95: the tests on `sat` are short cuts. -/
theorem desaturate_eq_satPartial (raw : Rgb) (sat : Byte) :
    desaturate raw sat = satPartial raw sat := by
  by_cases hfull : sat = 255
  · rw [hfull, desaturate_full, satPartial_full]
  by_cases hzero : sat = 0
  · rw [hzero, desaturate_zero, satPartial_zero]
  exact desaturate_partial raw sat hzero hfull

/-! ### The bounds of the sum (R94) -/

/-- Never grows: the floor is `desat` scaled by itself. -/
theorem brightnessFloor_toNat_le (sat : Byte) :
    (brightnessFloor sat).toNat ≤ 255 - sat.toNat :=
  desat_toNat sat ▸ scale8_toNat_le_left (desat sat) (desat sat)

/-- The floor falls short of `desat` as soon as `desat` is neither zero nor full, the multiplier's
`1 + desat` then being below 256. -/
theorem brightnessFloor_toNat_le_of_partial {sat : Byte} (hlo : 1 ≤ sat.toNat)
    (hhi : sat.toNat ≤ 254) : (brightnessFloor sat).toNat ≤ 254 - sat.toNat := by
  have hlt : (255 - sat.toNat) * (1 + (255 - sat.toNat)) < (255 - sat.toNat) * 256 :=
    Nat.mul_lt_mul_of_pos_left (by omega) (by omega)
  rw [brightnessFloor_toNat]
  omega

/-- Away from both ends the floor falls short by two: `desat * sat` is then at least `2 * 253`, and
`256 * desat` exceeds the product by `desat * sat`. -/
theorem brightnessFloor_toNat_le_of_inner {sat : Byte} (hlo : 2 ≤ sat.toNat)
    (hhi : sat.toNat ≤ 253) : (brightnessFloor sat).toNat ≤ 253 - sat.toNat := by
  obtain ⟨e, f, hsat, hdesat⟩ :
      ∃ e f, sat.toNat = 2 + e ∧ 255 - sat.toNat = 2 + f :=
    ⟨sat.toNat - 2, 253 - sat.toNat, by omega, by omega⟩
  have hsplit : (2 + f) * (1 + (2 + f)) + (2 + f) * (2 + e) = (2 + f) * 256 := by
    rw [← Nat.mul_add]
    congr 1
    omega
  have hgap : (2 + f) * (2 + e) = 506 + f * e := by
    have hsum : e + f = 251 := by omega
    linear_combination 2 * hsum
  rw [brightnessFloor_toNat, hdesat]
  omega

/-- R94: the sum over the integers stays a byte. -/
theorem scale8_add_brightnessFloor_le (c sat : Byte) :
    (scale8 c sat).toNat + (brightnessFloor sat).toNat ≤ 255 := by
  have hscaled := scale8_toNat_le_right c sat
  have hfloor := brightnessFloor_toNat_le sat
  omega

theorem scale8_add_brightnessFloor_le_of_partial (c : Byte) {sat : Byte} (hlo : 1 ≤ sat.toNat)
    (hhi : sat.toNat ≤ 254) : (scale8 c sat).toNat + (brightnessFloor sat).toNat ≤ 254 := by
  have hscaled := scale8_toNat_le_right c sat
  have hfloor := brightnessFloor_toNat_le_of_partial hlo hhi
  omega

/-- The bound is met at both ends, by the full channel, and nowhere between them. -/
theorem exists_scale8_add_brightnessFloor_eq_254_iff {sat : Byte} (hlo : 1 ≤ sat.toNat)
    (hhi : sat.toNat ≤ 254) :
    (∃ c : Byte, (scale8 c sat).toNat + (brightnessFloor sat).toNat = 254) ↔
      sat = 1 ∨ sat = 254 := by
  constructor
  · rintro ⟨c, hsum⟩
    by_contra! hne
    have hscaled := scale8_toNat_le_right c sat
    obtain ⟨htwo, hinner⟩ : 2 ≤ sat.toNat ∧ sat.toNat ≤ 253 := by bv_omega
    have hfloor := brightnessFloor_toNat_le_of_inner htwo hinner
    omega
  · rintro (rfl | rfl)
    · exact ⟨255, rfl⟩
    · exact ⟨255, rfl⟩

/-- The floor vanishes up to `desat = 15`, where its product first fits in a byte. -/
theorem brightnessFloor_eq_zero_iff (sat : Byte) : brightnessFloor sat = 0 ↔ 240 ≤ sat.toNat := by
  rw [brightnessFloor, scale8_eq_zero_iff, desat_toNat]
  constructor
  · intro hlt
    by_contra! hsat
    have hle : 16 * 17 ≤ (255 - sat.toNat) * (255 - sat.toNat + 1) :=
      Nat.mul_le_mul (by omega) (by omega)
    omega
  · intro hsat
    have hle : (255 - sat.toNat) * (255 - sat.toNat + 1) ≤ 15 * 16 :=
      Nat.mul_le_mul (by omega) (by omega)
    omega

/-! ### The modes (R91 to R93) -/

/-- White leaves Step 4 as the grey of `valp`, since SCALE8 is exact at 255 (R53, R112). -/
theorem valueScale_satZero (val : Byte) :
    valueScale satZero val = ⟨valpOf val, valpOf val, valpOf val⟩ := by
  by_cases hfull : val = 255
  · subst hfull
    rfl
  by_cases hzero : val = 0
  · subst hzero
    rfl
  rw [valueScale_partial _ _ hzero hfull, valPartial, scaleColor_eq, satZero, scale8_full_left]

theorem packColor_grey_toNat (x : Byte) : (packColor ⟨x, x, x⟩).toNat = x.toNat * 65793 := by
  calc (packColor ⟨x, x, x⟩).toNat
      = x.toNat * 65536 + x.toNat * 256 + x.toNat := packRgb_toNat x x x
    _ = x.toNat * 65793 := by omega

/-- Step 3's sum over the integers, with the floor as the wire carries it (R93). -/
theorem nats_satPartial_eq_add_floor (raw : Rgb) {sat : Byte} (hzero : sat ≠ 0) :
    nats (satPartial raw sat) =
      eachNat (fun x => scaleNat x sat.toNat + (brightnessFloor sat).toNat) (nats raw) := by
  rw [nats_satPartial raw sat hzero, brightnessFloor_toNat_eq_scaleNat]

/-! ### The corners of the partial modes (R93, R104) -/

/-- R93: one step below full saturation the floor is zero and a channel loses one. -/
theorem nats_satPartial_254 (c : Rgb) :
    nats (satPartial c 254) = eachNat (fun x => x - 1) (nats c) := by
  rw [nats_satPartial c 254 (by decide)]
  refine eachNat_congr (channelsAreBytes_nats c) fun x _ => ?_
  simp only [scaleNat, BitVec.reduceToNat]
  omega

/-- R93: at the least saturation a channel adds only its top bit to the floor of 253. -/
theorem nats_satPartial_one (c : Rgb) :
    nats (satPartial c 1) = eachNat (fun x => if x ≤ 127 then 253 else 254) (nats c) := by
  rw [nats_satPartial c 1 (by decide)]
  refine eachNat_congr (channelsAreBytes_nats c) fun x _ => ?_
  simp only [scaleNat, BitVec.reduceToNat]
  split_ifs <;> omega

/-- R104: `val = 254` gives `valp = 253`, whose multiplier takes `2 * x / 256` off a channel. -/
theorem nats_valPartial_254 (c : Rgb) :
    nats (valPartial c (valpOf 254)) =
      eachNat (fun x => if x ≤ 128 then x - 1 else x - 2) (nats c) := by
  have hvalp : (valpOf 254).toNat = 253 := rfl
  rw [valPartial, nats_scaleColor, hvalp]
  refine eachNat_congr (channelsAreBytes_nats c) fun x _ => ?_
  simp only [scaleNat]
  split_ifs <;> omega

/-- R102: the square of a `val` below 16 does not reach the high byte. -/
theorem valpOf_toNat_eq_one {val : Byte} (hlo : 1 ≤ val.toNat) (hhi : val.toNat ≤ 15) :
    (valpOf val).toNat = 1 := by
  have hsq : val.toNat * val.toNat ≤ 15 * 15 := Nat.mul_le_mul hhi hhi
  rw [valpOf_toNat, videoNat, if_pos (by omega)]
  omega

/-- R104: with `valp = 1` only the top bit of a channel is left. -/
theorem nats_valPartial_of_le_15 (c : Rgb) {val : Byte} (hlo : 1 ≤ val.toNat)
    (hhi : val.toNat ≤ 15) :
    nats (valPartial c (valpOf val)) = eachNat (fun x => if 128 ≤ x then 1 else 0) (nats c) := by
  rw [valPartial, nats_scaleColor, valpOf_toNat_eq_one hlo hhi]
  refine eachNat_congr (channelsAreBytes_nats c) fun x _ => ?_
  simp only [scaleNat]
  split_ifs <;> omega

/-! ### The obligations -/

/-- Settles O23: the raw color passes Step 3 as it is, and only the block moves. -/
theorem satFullKeepsTheRawColor : Obligations.SatFullKeepsTheRawColor := by
  intro hue val s
  refine ⟨_, exec_satFull s hue val, rfl, nats_rawColor hue, rfl, ?worked⟩
  case worked =>
    rintro rfl
    exact ⟨rfl, rfl⟩

/-- Settles O24: white before dimming, and after it the grey of `valp` in every channel. -/
theorem satZeroIsWhiteBeforeDimming : Obligations.SatZeroIsWhiteBeforeDimming := by
  intro hue val s
  have hword : packColor (valueScale satZero val) =
      packColor ⟨valpOf val, valpOf val, valpOf val⟩ := congrArg packColor (valueScale_satZero val)
  refine ⟨_, exec_satZero s hue val, rfl, rfl, ?full, ?zero, valpOf_toNat val,
    valueScale_satZero val, hword, ?grey⟩
  case full =>
    rintro rfl
    rfl
  case zero =>
    rintro rfl
    rfl
  case grey =>
    calc (packColor (valueScale satZero val)).toNat
        = (valpOf val).toNat * 65793 := by rw [hword, packColor_grey_toNat]
      _ = videoNat val.toNat val.toNat * 65793 := by rw [valpOf_toNat]

/-- Settles O25: the scaled channels and the floor over the integers, and their sums. -/
theorem satPartialScalesThenAddsTheFloor : Obligations.SatPartialScalesThenAddsTheFloor := by
  intro hue sat val s hlo hhi
  have hzero : sat ≠ 0 := by bv_omega
  have hfloor : (brightnessFloor sat).toNat = (255 - sat.toNat) * (256 - sat.toNat) / 256 := by
    rw [brightnessFloor_toNat, show 1 + (255 - sat.toNat) = 256 - sat.toNat by omega]
  have hfloorLe := (brightnessFloor_toNat_le_of_partial hlo hhi).trans (by omega : _ ≤ 253)
  refine ⟨_, exec_satPartial s hue sat val, rfl, nats_rawColor hue, desat_toNat sat, hfloor,
    hfloorLe, ?scaled, ?satColor, ?worked⟩
  case scaled => exact nats_rawColor hue ▸ nats_scaleColor (rawColor hue) sat
  case satColor => exact nats_rawColor hue ▸ nats_satPartial_eq_add_floor (rawColor hue) hzero
  case worked =>
    rintro rfl rfl
    exact ⟨rfl, rfl⟩

/-- Settles O26: the scaled channel is at most `sat` and the floor at most `desat`, with room to
spare except at the two ends. -/
theorem desaturationNeverOverflows : Obligations.DesaturationNeverOverflows :=
  ⟨fun c sat => ⟨scale8_toNat_le_right c sat, brightnessFloor_toNat_le sat,
      scale8_add_brightnessFloor_le c sat⟩,
    fun c _ hlo hhi => scale8_add_brightnessFloor_le_of_partial c hlo hhi,
    fun _ hlo hhi => exists_scale8_add_brightnessFloor_eq_254_iff hlo hhi⟩

/-- Settles O27: both short cuts give what the formula gives, so every request has its value. -/
theorem desaturationIsOneFormula : Obligations.DesaturationIsOneFormula :=
  ⟨fun raw => ⟨satPartial_full raw, satPartial_zero raw⟩, rfl, rfl, rfl, rfl,
    fun hue sat val s => ⟨_, exec_hsv2rgb s hue sat val,
      (desaturate_eq_satPartial _ sat).trans (satPartial_eq _ sat)⟩⟩

/-- Settles O28: a zero channel gives zero through the multiplier as well. -/
theorem nonZeroTestHasNoEffect : Obligations.NonZeroTestHasNoEffect :=
  ⟨scale8_zero_left, scaleChannel_eq,
    fun hue sat val s => ⟨_, exec_hsv2rgb s hue sat val, scaleColor_eq _ sat⟩⟩

/-- Settles O33: the corners of both partial modes on any color, and the values of the floor. -/
theorem partialStageCorners : Obligations.PartialStageCorners :=
  ⟨nats_satPartial_254, nats_satPartial_one, brightnessFloor_eq_zero_iff, rfl, rfl, rfl, rfl, rfl,
    nats_valPartial_254, fun c _ hlo hhi => nats_valPartial_of_le_15 c hlo hhi⟩

end Sys2Proof.Machine

/-!
# The value stage (spec/44_value_scale.md)

First the brightness curve `valp` (R102): its zero, its order, and the bands that the order and the
end values fix. Then the stage on any color: the one formula behind the three modes (R105), its
bounds and its order (R104, R106), and when it gives black. Then what a request of each mode leaves
on the wires (R101, R103, R104).
-/

namespace Sys2Proof.Machine

open Sys2Proof.Safety

/-! ### The brightness curve (R102) -/

/-- R103: both operands of the multiplier are `val`, so its zero is that of `val`. -/
theorem valpOf_eq_zero_iff (val : Byte) : valpOf val = 0 ↔ val = 0 := by
  rw [valpOf, scale8Video_eq_zero_iff, or_self]

theorem valpOf_toNat_of_ne_zero {val : Byte} (hzero : val ≠ 0) :
    (valpOf val).toNat = val.toNat * val.toNat / 256 + 1 :=
  scale8Video_toNat_of_ne_zero hzero hzero

theorem valpOf_toNat_eq_ite (val : Byte) :
    (valpOf val).toNat = if val = 0 then 0 else val.toNat * val.toNat / 256 + 1 := by
  split_ifs with hzero
  · rw [(valpOf_eq_zero_iff val).mpr hzero]
    rfl
  · exact valpOf_toNat_of_ne_zero hzero

/-- The square does not decrease, and the `+1` is only missing at the least `val`. -/
theorem valpOf_mono {v w : Byte} (hle : v ≤ w) : valpOf v ≤ valpOf w := by
  rw [BitVec.le_def] at hle ⊢
  by_cases hv : v = 0
  · rw [(valpOf_eq_zero_iff v).mpr hv]
    exact Nat.zero_le _
  · have hw : w ≠ 0 := by bv_omega
    rw [valpOf_toNat_of_ne_zero hv, valpOf_toNat_of_ne_zero hw]
    exact Nat.add_le_add_right (Nat.div_le_div_right (Nat.mul_le_mul hle hle)) 1

/-- The curve does not decrease, so it takes a value on one band, and the band's two ends with
their outer neighbours decide which. -/
theorem valpOf_eq_iff_of_band {n lo hi : Byte} (hbelow : valpOf (lo - 1) < n) (hlo : valpOf lo = n)
    (hhi : valpOf hi = n) (habove : n < valpOf (hi + 1)) (val : Byte) :
    valpOf val = n ↔ lo.toNat ≤ val.toNat ∧ val.toNat ≤ hi.toNat := by
  constructor
  · rintro rfl
    constructor
    · by_contra! hlt
      exact absurd (valpOf_mono (by bv_omega : val ≤ lo - 1)) (BitVec.not_le.mpr hbelow)
    · by_contra! hlt
      exact absurd (valpOf_mono (by bv_omega : hi + 1 ≤ val)) (BitVec.not_le.mpr habove)
  · rintro ⟨hge, hle⟩
    exact BitVec.le_antisymm (hhi ▸ valpOf_mono hle) (hlo ▸ valpOf_mono hge)

/-- The curve jumps from 128 at 181 to 130 at 182. -/
theorem valpOf_ne_129 (val : Byte) : valpOf val ≠ 129 := by
  have hlow : valpOf 181 = 128 := rfl
  have hhigh : valpOf 182 = 130 := rfl
  intro hskip
  rcases Nat.lt_or_ge 181 val.toNat with hgt | hle
  · have hge := valpOf_mono (show 182 ≤ val from hgt)
    rw [hskip, hhigh] at hge
    exact absurd hge (by decide)
  · have hge := valpOf_mono (show val ≤ 181 from hle)
    rw [hskip, hlow] at hge
    exact absurd hge (by decide)

/-- The predicate `valp_zero` of R13 reads `val` alone (R103). -/
theorem isValpZero_valpOf_iff (val : Byte) : isValpZero (valpOf val) = true ↔ val = 0 := by
  rw [isValpZero, beq_iff_eq, valpOf_eq_zero_iff]

/-! ### The stage as one formula (R105) -/

theorem valPartial_eq (c : Rgb) (valp : Byte) :
    valPartial c valp = ⟨scale8 c.r valp, scale8 c.g valp, scale8 c.b valp⟩ :=
  scaleColor_eq c valp

/-- At full value `valp` is 255 and the multiplier is the identity. -/
theorem valPartial_full (c : Rgb) : valPartial c (valpOf 255) = valFull c := by
  have hvalp : valpOf 255 = 255 := rfl
  simp only [valPartial_eq, hvalp, scale8_full_right, valFull]

/-- At value zero `valp` is zero and the multiplier gives zero. -/
theorem valPartial_zero (c : Rgb) : valPartial c (valpOf 0) = valBlack := by
  have hvalp : valpOf 0 = 0 := rfl
  simp only [valPartial_eq, hvalp, scale8_zero_right, valBlack]

/-- R105: the tests on `val` and `valp` are short cuts. -/
theorem valueScale_eq_valPartial (c : Rgb) (val : Byte) :
    valueScale c val = valPartial c (valpOf val) := by
  by_cases hfull : val = 255
  · rw [hfull, valueScale_full, valPartial_full]
  by_cases hzero : val = 0
  · rw [hzero, valueScale_zero, valPartial_zero]
  exact valueScale_partial c val hzero hfull

/-! ### The bounds and the order of the stage (R104, R106) -/

theorem notBrighter_valPartial (c : Rgb) (valp : Byte) : NotBrighter (valPartial c valp) c := by
  rw [valPartial_eq]
  exact ⟨scale8_toNat_le_left _ _, scale8_toNat_le_left _ _, scale8_toNat_le_left _ _⟩

theorem notBrighter_valPartial_grey (c : Rgb) (valp : Byte) :
    NotBrighter (valPartial c valp) ⟨valp, valp, valp⟩ := by
  rw [valPartial_eq]
  exact ⟨scale8_toNat_le_right _ _, scale8_toNat_le_right _ _, scale8_toNat_le_right _ _⟩

theorem notBrighter_valPartial_of_le (c : Rgb) {p q : Byte} (hle : p ≤ q) :
    NotBrighter (valPartial c p) (valPartial c q) := by
  have hchannel (x : Byte) : (scale8 x p).toNat ≤ (scale8 x q).toNat :=
    scale8_toNat_le_scale8_toNat le_rfl hle
  rw [valPartial_eq, valPartial_eq]
  exact ⟨hchannel c.r, hchannel c.g, hchannel c.b⟩

/-! ### Black (R104) -/

theorem packColor_eq_zero_iff (c : Rgb) : packColor c = 0 ↔ c = ⟨0, 0, 0⟩ := by
  constructor
  · intro hpack
    have hsum : c.r.toNat * 65536 + c.g.toNat * 256 + c.b.toNat = 0 := by
      rw [← packRgb_toNat, ← packColor, hpack]
      rfl
    obtain ⟨r, g, b⟩ := c
    dsimp only at hsum
    obtain ⟨rfl, rfl, rfl⟩ : r = 0 ∧ g = 0 ∧ b = 0 := by bv_omega
    rfl
  · rintro rfl
    rfl

/-- A non-zero `valp` makes the multiplier's factor at least 2, which lifts a channel from half
scale up into the high byte. -/
theorem scale8_ne_zero_of_half {channel valp : Byte} (hhalf : 128 ≤ channel.toNat)
    (hvalp : valp ≠ 0) : scale8 channel valp ≠ 0 := by
  have hpos : 1 ≤ valp.toNat := by bv_omega
  have hprod : 128 * 2 ≤ channel.toNat * (valp.toNat + 1) :=
    Nat.mul_le_mul hhalf (Nat.succ_le_succ hpos)
  rw [Ne, scale8_eq_zero_iff]
  omega

/-- R83: every hue has a raw channel of at least half scale. -/
theorem rawColor_largest (hue : Byte) :
    128 ≤ (rawColor hue).r.toNat ∨ 128 ≤ (rawColor hue).g.toNat ∨
      128 ≤ (rawColor hue).b.toNat := by
  have hlargest := rowNat_largest (thirdNat_le (Nat.mod_lt hue.toNat (by decide)))
    (hue.toNat / 32) (twothirdsNat (hue.toNat % 32))
  rwa [← rawNat_eq_rowNat, ← nats_rawColor] at hlargest

/-- R104: at full saturation Step 4 gets the raw color, whose largest channel survives any `val`
but zero. -/
theorem valueScale_rawColor_eq_black_iff (hue val : Byte) :
    valueScale (rawColor hue) val = ⟨0, 0, 0⟩ ↔ val = 0 := by
  constructor
  · intro hblack
    by_contra hval
    have hne {channel : Byte} (hhalf : 128 ≤ channel.toNat) : scale8 channel (valpOf val) ≠ 0 :=
      scale8_ne_zero_of_half hhalf (valpOf_ne_zero val hval)
    rw [valueScale_eq_valPartial, valPartial_eq, Rgb.mk.injEq] at hblack
    obtain ⟨hr, hg, hb⟩ := hblack
    rcases rawColor_largest hue with hhalf | hhalf | hhalf
    · exact hne hhalf hr
    · exact hne hhalf hg
    · exact hne hhalf hb
  · rintro rfl
    rfl

/-! ### The color that Step 4 reads (R90, R113) -/

/-- The color that leaves Step 3 over the integers, for the requests of every value mode. -/
theorem nats_desaturate_rawColor (hue sat : Byte) :
    nats (desaturate (rawColor hue) sat) = desaturateNat sat.toNat (rawNat hue.toNat) := by
  rw [nats_desaturate, nats_rawColor]

/-! ### The obligations -/

/-- Settles O29: the value, the zero and the bound from SCALE8_VIDEO's own, and the bands and the
skipped 129 from the order of the curve. -/
theorem valpIsTheBrightnessCurve : Obligations.ValpIsTheBrightnessCurve := by
  refine ⟨fun hue sat val s => ⟨_, exec_hsv2rgb s hue sat val, rfl, valpOf_toNat_eq_ite val,
    valpOf_eq_zero_iff val, ?one, ?two, ?three, ?four, ?five, valpOf_ne_129 val,
    scale8Video_toNat_le_left val val⟩, fun _ _ hle => valpOf_mono hle,
    rfl, rfl, rfl, rfl, rfl, rfl, rfl, rfl, rfl, rfl⟩
  case one => exact valpOf_eq_iff_of_band (lo := 1) (hi := 15) (by decide) rfl rfl (by decide) val
  case two => exact valpOf_eq_iff_of_band (lo := 16) (hi := 22) (by decide) rfl rfl (by decide) val
  case three =>
    exact valpOf_eq_iff_of_band (lo := 23) (hi := 27) (by decide) rfl rfl (by decide) val
  case four => exact valpOf_eq_iff_of_band (lo := 28) (hi := 31) (by decide) rfl rfl (by decide) val
  case five => exact valpOf_eq_iff_of_band (lo := 32) (hi := 35) (by decide) rfl rfl (by decide) val

/-- Settles O30: the saturated color passes Step 4 as it is, and only the block moves. -/
theorem valFullKeepsTheColor : Obligations.ValFullKeepsTheColor := by
  intro hue sat s
  refine ⟨_, exec_valFull s hue sat, rfl, nats_desaturate_rawColor hue sat, rfl, ?worked⟩
  case worked =>
    rintro rfl rfl
    exact ⟨rfl, rfl⟩

/-- Settles O31: black whatever the saturated color, in the mode and in the whole conversion. -/
theorem valBlackIsBlack : Obligations.ValBlackIsBlack :=
  ⟨fun hue sat s => ⟨_, exec_valBlack s hue sat, rfl, rfl, rfl, _, exec_hsv2rgb s hue sat 0,
      congrArg packColor (valueScale_zero _)⟩,
    fun hue sat val s => ⟨_, exec_hsv2rgb s hue sat val, isValpZero_valpOf_iff val⟩⟩

/-- Settles O32: each channel is the multiplier's quotient, with its two bounds and its zero. -/
theorem valPartialScalesByValp : Obligations.ValPartialScalesByValp := by
  intro hue sat val s hlo hhi
  have hzero : val ≠ 0 := by bv_omega
  have hchannel (x : Byte) : scaleChannel x (valpOf val) = 0 ↔
      x.toNat * ((valpOf val).toNat + 1) < 256 := by
    rw [scaleChannel_eq, scale8_eq_zero_iff]
  refine ⟨_, exec_valPartial s hue sat val, rfl, valpOf_toNat_of_ne_zero hzero,
    valpOf_le_of_not_full (by omega), nats_desaturate_rawColor hue sat, nats_scaleColor _ _,
    notBrighter_valPartial _ _, notBrighter_valPartial_grey _ _, hchannel _, hchannel _,
    hchannel _, ?worked⟩
  case worked =>
    rintro rfl rfl rfl
    exact ⟨rfl, rfl⟩

/-- Settles O34: at full saturation a raw channel of half scale is left, while at saturation 171
every channel of hue 132 is below 128 and a `valp` of 1 takes it away. -/
theorem fullSaturationIsBlackOnlyAtZero : Obligations.FullSaturationIsBlackOnlyAtZero :=
  fun hue val s => ⟨⟨_, exec_hsv2rgb s hue 255 val,
      (packColor_eq_zero_iff _).trans (valueScale_rawColor_eq_black_iff hue val)⟩,
    _, exec_hsv2rgb s 132 171 1, rfl⟩

/-- Settles O35: both short cuts give what the formula gives, so every request has its value. -/
theorem valueStageIsOneFormula : Obligations.ValueStageIsOneFormula :=
  ⟨rfl, rfl, fun c => ⟨scale8_full_right c, scale8_zero_right c, scale8_zero_left c⟩,
    fun c => ⟨valPartial_full c, valPartial_zero c⟩,
    fun hue sat val s => ⟨_, exec_hsv2rgb s hue sat val,
      (valueScale_eq_valPartial _ val).trans (valPartial_eq _ (valpOf val))⟩⟩

/-- Settles O36: `valp` does not decrease as `val` grows, and the one formula keeps order in
`valp`. -/
theorem dimmingIsMonotone : Obligations.DimmingIsMonotone := by
  intro hue sat v w s hle
  refine ⟨_, _, exec_hsv2rgb s hue sat v, exec_hsv2rgb s hue sat w, ?grows, ?bound⟩
  case grows =>
    simp only [State.settle_signals, assemble_out, valueScale_eq_valPartial]
    exact notBrighter_valPartial_of_le _ (valpOf_mono hle)
  case bound =>
    simp only [State.settle_signals, assemble_out, assemble_satColor, valueScale_eq_valPartial]
    exact notBrighter_valPartial _ _

end Sys2Proof.Machine

/-!
# The packer and the whole conversion (spec/45_pack_and_convert.md)

First the packed word: its channels are read back from it, so a color is recovered from its response
(R110, R111). Then the colors that end in white, stage by stage from the last (R115). The conversion
over the integers and its one formula stand with the ports.
-/

namespace Sys2Proof.Machine

open Sys2Proof.Safety

/-! ### The packed word (R110, R111) -/

section PackedWord

variable (r g b : Byte)

/-- The top byte is zero: three bytes of channels stay below `2 ^ 24`. -/
theorem extractLsb'_24_packRgb : (packRgb r g b).extractLsb' 24 8 = 0 := by
  apply BitVec.eq_of_toNat_eq
  rw [BitVec.extractLsb'_toNat, packRgb_toNat, Nat.shiftRight_eq_div_pow]
  bv_omega

theorem extractLsb'_16_packRgb : (packRgb r g b).extractLsb' 16 8 = r := by
  apply BitVec.eq_of_toNat_eq
  rw [BitVec.extractLsb'_toNat, packRgb_toNat, Nat.shiftRight_eq_div_pow]
  omega

theorem extractLsb'_8_packRgb : (packRgb r g b).extractLsb' 8 8 = g := by
  apply BitVec.eq_of_toNat_eq
  rw [BitVec.extractLsb'_toNat, packRgb_toNat, Nat.shiftRight_eq_div_pow]
  omega

theorem extractLsb'_0_packRgb : (packRgb r g b).extractLsb' 0 8 = b := by
  apply BitVec.eq_of_toNat_eq
  rw [BitVec.extractLsb'_toNat, packRgb_toNat, Nat.shiftRight_eq_div_pow]
  omega

/-- Putting a byte below a word shifts the word up by a byte. -/
theorem toNat_append_byte {w : Nat} (x : BitVec w) (y : Byte) :
    (x ++ y).toNat = x.toNat * 256 + y.toNat := by
  rw [BitVec.toNat_append, ← Nat.shiftLeft_add_eq_or_of_lt y.isLt, Nat.shiftLeft_eq]

/-- R110: the three shifted channels do not overlap, so their OR is their concatenation. -/
theorem packRgb_eq_append : packRgb r g b = (0 : Byte) ++ r ++ g ++ b := by
  apply BitVec.eq_of_toNat_eq
  rw [packRgb_toNat, toNat_append_byte, toNat_append_byte, toNat_append_byte]
  bv_omega

end PackedWord

/-- R111: the channels are recovered from the word, so no two colors share one. -/
theorem packColor_injective : Function.Injective packColor := by
  rintro ⟨r, g, b⟩ ⟨r', g', b'⟩ heq
  have hword : packRgb r g b = packRgb r' g' b' := heq
  rw [Rgb.mk.injEq]
  refine ⟨?red, ?green, ?blue⟩
  case red => rw [← extractLsb'_16_packRgb r g b, hword, extractLsb'_16_packRgb]
  case green => rw [← extractLsb'_8_packRgb r g b, hword, extractLsb'_8_packRgb]
  case blue => rw [← extractLsb'_0_packRgb r g b, hword, extractLsb'_0_packRgb]

/-! ### White (R115) -/

/-- The response is white exactly for the color of SAT_ZERO. -/
theorem packColor_eq_white_iff (c : Rgb) : packColor c = 0x00FFFFFF ↔ c = satZero := by
  have hwhite : packColor satZero = 0x00FFFFFF := rfl
  rw [← hwhite, packColor_injective.eq_iff]

/-- Full scale needs both operands at full scale, since neither is below the result. -/
theorem scale8_eq_255_iff (i frac : Byte) : scale8 i frac = 255 ↔ i = 255 ∧ frac = 255 := by
  constructor
  · intro hfull
    have hi := scale8_toNat_le_left i frac
    have hfrac := scale8_toNat_le_right i frac
    rw [hfull] at hi hfrac
    constructor <;> bv_omega
  · rintro ⟨rfl, rfl⟩
    exact scale8_full_right 255

/-- Step 4 only dims, so white leaves it only undimmed. -/
theorem valueScale_eq_satZero_iff (c : Rgb) (val : Byte) :
    valueScale c val = satZero ↔ c = satZero ∧ val = 255 := by
  constructor
  · intro hwhite
    obtain ⟨r, g, b⟩ := c
    simp only [valueScale_eq_valPartial, valPartial_eq, satZero, Rgb.mk.injEq,
      scale8_eq_255_iff] at hwhite
    obtain ⟨⟨rfl, hvalp⟩, ⟨rfl, -⟩, rfl, -⟩ := hwhite
    obtain ⟨hval, -⟩ := (scale8Video_eq_255_iff val val).mp hvalp
    exact ⟨rfl, hval⟩
  · rintro ⟨rfl, rfl⟩
    rfl

/-- R83: every hue has a raw channel at zero. -/
theorem rawColor_ne_satZero (hue : Byte) : rawColor hue ≠ satZero := by
  intro hwhite
  obtain ⟨hr, hg, hb⟩ := rawNat_zeros hue.isLt
  have hnats : nats satZero = (255, 255, 255) := rfl
  rw [← nats_rawColor, hwhite, hnats] at hr hg hb
  dsimp only at hr hg hb
  omega

/-- R94: a partial saturation leaves every channel below full scale. -/
theorem satPartial_ne_satZero (raw : Rgb) {sat : Byte} (hlo : 1 ≤ sat.toNat)
    (hhi : sat.toNat ≤ 254) : satPartial raw sat ≠ satZero := by
  intro hwhite
  rw [satPartial_eq, satZero, Rgb.mk.injEq] at hwhite
  have hsum := scale8_add_brightnessFloor_le_of_partial raw.r hlo hhi
  bv_omega

/-- White leaves Step 3 only at saturation zero: a partial saturation stays below full scale, and
at full saturation the raw color passes. -/
theorem desaturate_rawColor_eq_satZero_iff (hue sat : Byte) :
    desaturate (rawColor hue) sat = satZero ↔ sat = 0 := by
  constructor
  · intro hwhite
    by_contra hzero
    by_cases hfull : sat = 255
    · rw [hfull, desaturate_full] at hwhite
      exact rawColor_ne_satZero hue hwhite
    · rw [desaturate_partial _ _ hzero hfull] at hwhite
      exact satPartial_ne_satZero _ (by bv_omega) (by bv_omega) hwhite
  · rintro rfl
    exact desaturate_zero _

/-! ### The obligations -/

/-- Settles O38: the response is the packed output color, whose bytes are read back one by one. -/
theorem responseHoldsTheChannels : Obligations.ResponseHoldsTheChannels :=
  fun hue sat val s => ⟨_, exec_hsv2rgb s hue sat val, extractLsb'_24_packRgb _ _ _,
    packColor_le _, extractLsb'_16_packRgb _ _ _, extractLsb'_8_packRgb _ _ _,
    extractLsb'_0_packRgb _ _ _⟩

/-- Settles O39: the conversion evaluates its request, and its word is that of the five steps. -/
theorem conversionFollowsTheFiveSteps : Obligations.ConversionFollowsTheFiveSteps := by
  intro hue sat val s
  refine ⟨_, exec_hsv2rgb s hue sat val, onlyTheBlock_evaluate s hue sat val,
    convert_toNat hue sat val, ?worked⟩
  case worked =>
    rintro rfl rfl rfl
    rfl

/-- Settles O40: the five steps are the one formula, and the word is that of the five steps. -/
theorem conversionIsOneFormula : Obligations.ConversionIsOneFormula := by
  intro hue sat val s
  have hformula := stepsNat_eq_formulaNat hue sat val
  exact ⟨_, exec_hsv2rgb s hue sat val, (convert_toNat hue sat val).trans hformula, hformula.symm⟩

/-- Settles O41: white comes out of Step 5, Step 4 and Step 3 only as it went in. -/
theorem whiteExactlyAtZeroSatFullVal : Obligations.WhiteExactlyAtZeroSatFullVal := by
  intro hue sat val s
  refine ⟨_, exec_hsv2rgb s hue sat val, ?_⟩
  rw [State.settle_rgbO, packColor_eq_white_iff, valueScale_eq_satZero_iff,
    desaturate_rawColor_eq_satZero_iff]

/-- Settles O37: PACK drives the concatenation of its channels, and only its output moves. -/
theorem packPlacesTheChannels : Obligations.PackPlacesTheChannels := by
  intro r g b s
  refine ⟨_, exec_pack s r g b, packRgb_toNat r g b, packRgb_eq_append r g b, rfl, ?black, ?white,
    ?worked⟩
  all_goals
    rintro rfl rfl rfl
    rfl

/-- Settles O43: each wire is a function of the inputs that its stage reads. -/
theorem stagesReadOnlyTheirInputs : Obligations.StagesReadOnlyTheirInputs := by
  intro h s v h' s' v' x y
  refine ⟨_, _, exec_hsv2rgb x h s v, exec_hsv2rgb y h' s' v', ?raw, ?satColor, ?floor, ?valp,
    rfl, rfl, rfl⟩
  case raw => exact congrArg rawColor
  case satColor => exact fun hhue hsat => congrArg₂ desaturate (congrArg rawColor hhue) hsat
  case floor => exact congrArg brightnessFloor
  case valp => exact congrArg valpOf

end Sys2Proof.Machine

/-!
# Exceptions and the host adapter (spec/60_exceptions.md)

The adapter of R128 stands around the block: first what each policy presents for one argument, then
what a call answers once its three arguments are presented, or one of them is not. That no operation
faults (R120) stands with the decoder, whose refusals rest on it.
-/

namespace Sys2Proof.Machine

/-! ### One argument under a policy (R128) -/

section OneArgument

variable {n : Int}

/-- Both policies present an argument of one byte as it is. -/
theorem adaptArg_of_byte (p : HostRangePolicy) (hlo : 0 ≤ n) (hhi : n ≤ 255) :
    adaptArg p n = some (BitVec.ofInt 8 n) :=
  if_pos ⟨hlo, hhi⟩

theorem adaptArg_reject_of_outside (h : n < 0 ∨ 255 < n) : adaptArg .reject n = none :=
  if_neg (by omega)

theorem adaptArg_truncate_of_nonneg (h : 0 ≤ n) :
    adaptArg .truncate n = some (BitVec.ofInt 8 n) := by
  by_cases hhi : n ≤ 255
  · exact adaptArg_of_byte .truncate h hhi
  · rw [adaptArg, if_neg (by omega)]
    exact if_neg (by omega)

theorem adaptArg_truncate_of_neg (h : n < 0) :
    adaptArg .truncate n = some (Config.truncateNegative n) := by
  rw [adaptArg, if_neg (by omega)]
  exact if_pos h

end OneArgument

/-- Whatever a negative argument is presented as, truncation presents some byte (log entry 7). -/
theorem exists_adaptArg_truncate (n : Int) : ∃ b, adaptArg .truncate n = some b := by
  by_cases h : n < 0
  · exact ⟨_, adaptArg_truncate_of_neg h⟩
  · exact ⟨_, adaptArg_truncate_of_nonneg (by omega)⟩

/-- Presented as eight bits, an argument is reduced modulo 256. -/
theorem ofInt_eight_toNat (n : Int) : ((BitVec.ofInt 8 n).toNat : Int) = n % 256 := by
  rw [BitVec.toNat_ofInt]
  omega

/-! ### A call of the adapter (R128) -/

section Call

variable {p : HostRangePolicy} {hue sat val : Int}

theorem adapt_of_adaptArg {h k v : Byte} (hhue : adaptArg p hue = some h)
    (hsat : adaptArg p sat = some k) (hval : adaptArg p val = some v) :
    adapt p hue sat val = some ⟨h, k, v⟩ := by
  rw [adapt, hhue, hsat, hval]

/-- One argument that is not presented is enough for no request to be. -/
theorem adapt_eq_none (h : adaptArg p hue = none ∨ adaptArg p sat = none ∨ adaptArg p val = none) :
    adapt p hue sat val = none := by
  unfold adapt
  split
  case h_1 hhue hsat hval => simp [hhue, hsat, hval] at h
  case h_2 => rfl

theorem callUnder_of_adapt_none (s : State) (h : adapt p hue sat val = none) :
    callUnder p s hue sat val = some (.rangeError, s) := by
  rw [callUnder, h]

/-- Whatever request is presented is answered by its own conversion and stands on the ports. -/
theorem callUnder_of_adapt_some (s : State) {r : Request} (h : adapt p hue sat val = some r) :
    callUnder p s hue sat val =
      some (.response (convert r.hue r.sat r.val), s.present r.hue r.sat r.val) := by
  simp only [callUnder, h, ask_eq]

end Call

/-- Where a policy presents three natural numbers as eight bits each, the call converts their
residues. -/
theorem callUnder_of_residues {p : HostRangePolicy} (s : State) {h k v : Nat}
    (hh : adaptArg p h = some (BitVec.ofInt 8 h)) (hk : adaptArg p k = some (BitVec.ofInt 8 k))
    (hv : adaptArg p v = some (BitVec.ofInt 8 v)) :
    ∃ w t, callUnder p s h k v = some (.response w, t) ∧
      w.toNat = Safety.formulaNat (h % 256) (k % 256) (v % 256) ∧ t.hueI.toNat = h % 256 ∧
      t.satI.toNat = k % 256 ∧ t.valI.toNat = v % 256 ∧ t.rgbO = w := by
  have residue (n : Nat) : (BitVec.ofInt 8 n).toNat = n % 256 := by
    have := ofInt_eight_toNat n
    omega
  refine ⟨_, _, callUnder_of_adapt_some s (adapt_of_adaptArg hh hk hv), ?word, residue h, residue k,
    residue v, rfl⟩
  case word => rw [convert_toNat_eq_formulaNat, residue, residue, residue]

/-! ### The obligations -/

/-- Settles O60: what each policy presents for one argument decides whether the block is asked, and
the block answers the request presented. -/
theorem hostPoliciesAreTheTwo : Obligations.HostPoliciesAreTheTwo := by
  refine ⟨?byte, ?above, ?outside, ?rejected, ?inRange, ?truncated, ?presented⟩
  case byte =>
    intro p n hlo hhi
    exact ⟨_, adaptArg_of_byte p hlo hhi, (ofInt_eight_toNat n).trans (by omega)⟩
  case above =>
    intro n h
    exact ⟨_, adaptArg_truncate_of_nonneg (by omega), ofInt_eight_toNat n⟩
  case outside =>
    exact fun n h => ⟨adaptArg_reject_of_outside h, exists_adaptArg_truncate n⟩
  case rejected =>
    intro s h k v houtside
    exact callUnder_of_adapt_none s (adapt_eq_none (houtside.imp adaptArg_reject_of_outside
      (Or.imp adaptArg_reject_of_outside adaptArg_reject_of_outside)))
  case inRange =>
    intro p s h k v hh hk hv
    have unchanged {n : Nat} (hn : n ≤ 255) : adaptArg p n = some (BitVec.ofInt 8 n) :=
      adaptArg_of_byte p (by omega) (by omega)
    obtain ⟨w, t, hcall, hword, -⟩ :=
      callUnder_of_residues s (unchanged hh) (unchanged hk) (unchanged hv)
    rw [Nat.mod_eq_of_lt (by omega), Nat.mod_eq_of_lt (by omega), Nat.mod_eq_of_lt (by omega)]
      at hword
    exact ⟨w, t, hcall, hword⟩
  case truncated =>
    intro s h k v
    exact callUnder_of_residues s (adaptArg_truncate_of_nonneg (Int.natCast_nonneg h))
      (adaptArg_truncate_of_nonneg (Int.natCast_nonneg k))
      (adaptArg_truncate_of_nonneg (Int.natCast_nonneg v))
  case presented =>
    intro s h k v
    obtain ⟨h', hh⟩ := exists_adaptArg_truncate h
    obtain ⟨k', hk⟩ := exists_adaptArg_truncate k
    obtain ⟨v', hv⟩ := exists_adaptArg_truncate v
    have hadapt := adapt_of_adaptArg hh hk hv
    exact ⟨_, _, _, hadapt, callUnder_of_adapt_some s hadapt, convert_toNat_eq_formulaNat h' k' v'⟩

/-- Settles O44: each operation has a meaning, and its meaning is a next state. -/
theorem everyOperationCompletes : Obligations.EveryOperationCompletes :=
  exec_completes

end Sys2Proof.Machine

/-!
# Every row runs through a step (spec/30_encoding.md, sections 1, 3 and 6)

The encoder, the place where a word is put, the fetch and `exec` joined. The word of a well-formed
operation decodes to that operation on its own target (`decode_encode`), and bytes that decode on a
target are what a step reads once they are put there.
-/

namespace Sys2Proof.Machine

/-- Bytes that a target decodes select that target when they are put. -/
theorem place_target_of_decode {t : Target} {bytes : List Byte} {i : Instr}
    (h : decode t bytes = .ok i) (s : State) : (s.place t bytes).target = t := by
  rcases place_of_decode h s with ⟨-, hue, sat, val, heq⟩ | ⟨-, a, b, c, heq⟩ <;> rw [heq]

/-- Bytes that a target decodes are run by the next step once they are put there. -/
theorem step_place_of_decode {t : Target} {bytes : List Byte} {i : Instr}
    (h : decode t bytes = .ok i) (s : State) :
    step (s.place t bytes) = exec i (s.place t bytes) :=
  step_of_fetched (fetched_place h s)

/-- Settles O48: the word of a well-formed operation decodes on its target, so it is fetched from
where it was put, and the operation that runs completes. -/
theorem everyRowRunsThroughStep : Obligations.EveryRowRunsThroughStep := by
  intro i s hwf x
  have hdecode : decode (encode i).target (encode i).bytes = .ok i := decode_encode hwf
  have hstep : step x = exec i x := step_place_of_decode hdecode s
  obtain ⟨t, ht⟩ := exec_completes i x
  exact ⟨hstep, ⟨t, hstep.trans ht⟩, place_target_of_decode hdecode s,
    onlyTheInputs_place hdecode s, settled_place_of_request hdecode s⟩

end Sys2Proof.Machine
